-- ==== Sys2Proof/Word.lean ====
section
/-! DEFINITION. The word types of the spec (rules R8, R9, R10, R87, R88 of 00_scope.md and 30_encoding.md). -/

namespace Sys2Proof

/-- A 64-bit register or the program counter (R8, R59, R60). Bit 0 is the least significant bit
(R9, log entry 10: PRESUMED). -/
abbrev Word := BitVec 64

/-- A 32-bit instruction word (R88). -/
abbrev InstrWord := BitVec 32

/-- One 4-bit field of the register (R20). -/
abbrev Nibble := BitVec 4

/-- A one-bit register field, compared with `'1'` in the source's pseudocode (R10, R56, R57). -/
abbrev Bit := BitVec 1

/-- The number `t` of a destination register, the 5-bit field `Rt` (R87). -/
abbrev RegNum := BitVec 5

end Sys2Proof
end

