-- ==== Sys2Proof/Config.lean ====
section
/-! DEFINITION. The configuration: the constants of one implementation, fixed for a whole run (rule R6 of
00_scope.md). It is plain data, held in State and never written (R23), so that every statement ranges
over every implementation. What is computed from it stands in Machine/Fields.lean and
Machine/ConfigCheck.lean. -/

namespace Sys2Proof

/-- The sixteen 4-bit fields of `ID_AA64ISAR0_EL1`, from bit 63 down (R20 of 10_state.md). -/
inductive Field where
  | rndr | tlb | ts | fhm | dp | sm4 | sm3 | sha3
  | rdm | res27_24 | atomic | crc32 | sha2 | sha1 | aes | res3_0
deriving DecidableEq, Repr

/-- The features the source names (R3): seven that are parameters of their own (R6), then the nineteen that
a field identifies (R44). -/
inductive Feature where
  | aa64 | idst | idte3 | rngTrap | fp16 | advSimd | sveF16f32mm
  | rng | tlbios | tlbirange | flagM | flagM2 | fhm | dotProd | sm4 | sm3 | sha3
  | rdm | lse | lse128 | crc32 | sha256 | sha512 | sha1 | aes | pmull
deriving DecidableEq, Repr

/-- The architecture versions the source names (R3, R54). -/
inductive ArchVersion where
  | armv8_1 | armv8_4 | armv8_5 | armv9_7
deriving DecidableEq, Repr

/-- The two version tests as parameters: `ArchAtLeast(v)` and `ArchIs(v)` (R54, decision D7). -/
structure ArchTests where
  atLeast8_1 : Bool
  atLeast8_4 : Bool
  atLeast8_5 : Bool
  atLeast9_7 : Bool
  is8_1 : Bool
  is8_4 : Bool
  is8_5 : Bool
  is9_7 : Bool
deriving DecidableEq, Repr

/-- The parameters of one implementation (the table of R6). -/
structure Config where
  /-- `P_RNDR` to `P_AES`: the IMPLEMENTATION DEFINED field values (R21, R24 to R38). -/
  pRndr : Nibble
  pTlb : Nibble
  pTs : Nibble
  pFhm : Nibble
  pDp : Nibble
  pSm4 : Nibble
  pSm3 : Nibble
  pSha3 : Nibble
  pRdm : Nibble
  pAtomic : Nibble
  pCrc32 : Nibble
  pSha2 : Nibble
  pSha1 : Nibble
  pAes : Nibble
  /-- `FEAT_AA64` (R2, R101). -/
  featAA64 : Bool
  /-- `FEAT_IDST` (R102). -/
  featIDST : Bool
  /-- `FEAT_IDTE3` (R103, R104). -/
  featIDTE3 : Bool
  /-- `FEAT_RNG_TRAP` (R107). -/
  featRNGTRAP : Bool
  /-- `HAVE_EL3`, the source's `HaveEL(EL3)` (R58). -/
  haveEL3 : Bool
  /-- `FEAT_FP16` (R47). -/
  featFP16 : Bool
  /-- `FEAT_AdvSIMD` (R48, R49). -/
  featAdvSIMD : Bool
  /-- `FEAT_SVE_F16F32MM` (R48). -/
  featSVEF16F32MM : Bool
  /-- The architecture version, known by its two tests (R54). -/
  arch : ArchTests
  /-- `RNDR_VIEW` written out (R107, decision D9, log entry 9): the result for the 4-bit `p` and the one
  bit `b` stands at index `2 * p + b`. An open parameter: nothing here fixes an entry. -/
  rndrViewTable : Vector Nibble 32
deriving DecidableEq, Repr

/-- The checks a configuration must pass (R53, R54, R107, decisions D4, D7, D9, D19); a refusal names
the one that fails. -/
inductive ConfigCheck where
  | wfValues | wfCross | wfFeature | wfVersion
  /-- The laws of `ArchAtLeast` and `ArchIs` (R54). -/
  | archLaws
  /-- `FEAT_RNG_TRAP` needs EL3 (R107, decision D19). -/
  | rngTrapNeedsEL3
  /-- The results of `RNDR_VIEW` are defined values of RNDR (R107, decision D9). -/
  | rndrViewRange
deriving DecidableEq, Repr

end Sys2Proof
end

