-- ==== Sys2Proof/Syntax.lean ====
section
/-! DEFINITION. The syntax: the one instruction of the opcode table, the abstract System register access
it stands for, the names the register's fields mention, and what may stand in a program text. -/

namespace Sys2Proof

/-- A point of the System register encoding space (R71, R86 of 20_memory.md and 30_encoding.md): the five
fields with the widths of their literals. -/
structure Selector where
  op0 : BitVec 2
  op1 : BitVec 3
  crn : BitVec 4
  crm : BitVec 4
  op2 : BitVec 3
deriving DecidableEq, Repr

/-- The direction of a System register access, the bit `L` of the word (R88): 1 reads, 0 writes. -/
inductive Direction where
  | read
  | write
deriving DecidableEq, Repr

/-- The abstract term of a System register access, `MRS(t, op0, op1, CRn, CRm, op2)` (R88, decision D13),
with its direction, so that the write form can be named when it is rejected (R92). -/
structure SysRegTerm where
  direction : Direction
  selector : Selector
  t : RegNum
deriving DecidableEq, Repr

/-- The instructions: one constructor, the one row of the opcode table (R85, R90). -/
inductive Instr where
  /-- `MRS <Xt>, ID_AA64ISAR0_EL1` (R85, R100). -/
  | mrsIdAa64isar0El1 (t : RegNum)
deriving DecidableEq, Repr

/-- What the register's field descriptions name (R120 of 41_identified_instructions.md): 67 mnemonics, two
registers and two instruction classes without a mnemonic. None is an instruction of this spec (R121). -/
inductive Named where
  | rndr | rndrrs
  | outerShareableTlbMaintenance | tlbRangeMaintenance
  | cfinv | rmif | setf16 | setf8 | axflag | xaflag
  | fmlal | fmlsl
  | udot | sdot
  | sm4e | sm4ekey
  | sm3ss1 | sm3tt1a | sm3tt1b | sm3tt2a | sm3tt2b | sm3partw1 | sm3partw2
  | eor3 | rax1 | xar | bcax
  | sqrdmlah | sqrdmlsh
  | ldadd | ldclr | ldeor | ldset | ldsmax | ldsmin | ldumax | ldumin | cas | casp | swp
  | ldclrp | ldsetp | swpp
  | crc32b | crc32h | crc32w | crc32x | crc32cb | crc32ch | crc32cw | crc32cx
  | sha256h | sha256h2 | sha256su0 | sha256su1
  | sha512h | sha512h2 | sha512su0 | sha512su1
  | sha1c | sha1p | sha1m | sha1h | sha1su0 | sha1su1
  | aese | aesd | aesmc | aesimc
  | pmull | pmull2
deriving DecidableEq, Repr

/-- What stands at an address of a program text (R80, decision D17): a 32-bit instruction word given as a
number (R72, decision D16), or an instruction known by its name only, because the source gives it no
encoding (R121, log entry 18). -/
inductive FetchItem where
  | word (w : InstrWord)
  | named (n : Named)
deriving DecidableEq, Repr

/-- Why the decoder rejects (R92, R93, R121, decision D14). -/
inductive Reject where
  /-- The word is the write direction to the register's selector (R92). -/
  | writeFormToReadOnly
  /-- Any other word (R93). -/
  | notInThisSpec
  /-- An instruction the register's fields name (R121). -/
  | namedNotSpecified (n : Named)
deriving DecidableEq, Repr

end Sys2Proof
end

