-- ==== Sys2Proof/Machine/Fields.lean ====
section
/-! DEFINITION. The register's layout, the defined values of its fields, and what a value reports
(rules R20 to R39 of 10_state.md, R120 of 41_identified_instructions.md). -/

namespace Sys2Proof

/-- The fields in the order of the table of R20. -/
def Field.all : List Field :=
  [.rndr, .tlb, .ts, .fhm, .dp, .sm4, .sm3, .sha3, .rdm, .res27_24, .atomic, .crc32, .sha2, .sha1, .aes,
    .res3_0]

/-- The lowest bit of a field (R20). -/
def Field.lo : Field → Nat
  | .rndr => 60 | .tlb => 56 | .ts => 52 | .fhm => 48
  | .dp => 44 | .sm4 => 40 | .sm3 => 36 | .sha3 => 32
  | .rdm => 28 | .res27_24 => 24 | .atomic => 20 | .crc32 => 16
  | .sha2 => 12 | .sha1 => 8 | .aes => 4 | .res3_0 => 0

/-- The highest bit of a field (R20): every field has four bits. -/
def Field.hi (f : Field) : Nat := f.lo + 3

/-- The slice `v[hi:lo]` of a field (R9, R20). -/
def fieldOf (v : Word) (f : Field) : Nibble := v.extractLsb' f.lo 4

/-- The defined values of a field (R24 to R38); a reserved nibble holds zero only (R33, R39). -/
def Field.defined : Field → List Nibble
  | .rndr => [0b0000, 0b0001]
  | .tlb => [0b0000, 0b0001, 0b0010]
  | .ts => [0b0000, 0b0001, 0b0010]
  | .fhm => [0b0000, 0b0001]
  | .dp => [0b0000, 0b0001]
  | .sm4 => [0b0000, 0b0001]
  | .sm3 => [0b0000, 0b0001]
  | .sha3 => [0b0000, 0b0001]
  | .rdm => [0b0000, 0b0001]
  | .res27_24 => [0b0000]
  | .atomic => [0b0000, 0b0010, 0b0011]
  | .crc32 => [0b0000, 0b0001]
  | .sha2 => [0b0000, 0b0001, 0b0010]
  | .sha1 => [0b0000, 0b0001]
  | .aes => [0b0000, 0b0001, 0b0010]
  | .res3_0 => [0b0000]

/-- The field whose Meaning column names `n` (R120, last column). -/
def Named.field : Named → Field
  | .rndr | .rndrrs => .rndr
  | .outerShareableTlbMaintenance | .tlbRangeMaintenance => .tlb
  | .cfinv | .rmif | .setf16 | .setf8 | .axflag | .xaflag => .ts
  | .fmlal | .fmlsl => .fhm
  | .udot | .sdot => .dp
  | .sm4e | .sm4ekey => .sm4
  | .sm3ss1 | .sm3tt1a | .sm3tt1b | .sm3tt2a | .sm3tt2b | .sm3partw1 | .sm3partw2 => .sm3
  | .eor3 | .rax1 | .xar | .bcax => .sha3
  | .sqrdmlah | .sqrdmlsh => .rdm
  | .ldadd | .ldclr | .ldeor | .ldset | .ldsmax | .ldsmin | .ldumax | .ldumin | .cas | .casp | .swp => .atomic
  | .ldclrp | .ldsetp | .swpp => .atomic
  | .crc32b | .crc32h | .crc32w | .crc32x | .crc32cb | .crc32ch | .crc32cw | .crc32cx => .crc32
  | .sha256h | .sha256h2 | .sha256su0 | .sha256su1 => .sha2
  | .sha512h | .sha512h2 | .sha512su0 | .sha512su1 => .sha2
  | .sha1c | .sha1p | .sha1m | .sha1h | .sha1su0 | .sha1su1 => .sha1
  | .aese | .aesd | .aesmc | .aesimc => .aes
  | .pmull | .pmull2 => .aes

/-- The values of that field that report `n` as implemented (R120, second column). -/
def Named.reportedAt : Named → List Nibble
  | .rndr | .rndrrs => [0b0001]
  | .outerShareableTlbMaintenance => [0b0001, 0b0010]
  | .tlbRangeMaintenance => [0b0010]
  | .cfinv | .rmif | .setf16 | .setf8 => [0b0001, 0b0010]
  | .axflag | .xaflag => [0b0010]
  | .fmlal | .fmlsl => [0b0001]
  | .udot | .sdot => [0b0001]
  | .sm4e | .sm4ekey => [0b0001]
  | .sm3ss1 | .sm3tt1a | .sm3tt1b | .sm3tt2a | .sm3tt2b | .sm3partw1 | .sm3partw2 => [0b0001]
  | .eor3 | .rax1 | .xar | .bcax => [0b0001]
  | .sqrdmlah | .sqrdmlsh => [0b0001]
  | .ldadd | .ldclr | .ldeor | .ldset | .ldsmax | .ldsmin | .ldumax | .ldumin | .cas | .casp | .swp =>
    [0b0010, 0b0011]
  | .ldclrp | .ldsetp | .swpp => [0b0011]
  | .crc32b | .crc32h | .crc32w | .crc32x | .crc32cb | .crc32ch | .crc32cw | .crc32cx => [0b0001]
  | .sha256h | .sha256h2 | .sha256su0 | .sha256su1 => [0b0001, 0b0010]
  | .sha512h | .sha512h2 | .sha512su0 | .sha512su1 => [0b0010]
  | .sha1c | .sha1p | .sha1m | .sha1h | .sha1su0 | .sha1su1 => [0b0001]
  | .aese | .aesd | .aesmc | .aesimc => [0b0001, 0b0010]
  | .pmull | .pmull2 => [0b0010]

/-- `Reports(v, m)`: the value `v` reports `m` as implemented (R120). Equality and membership only
(R10, decision D21). -/
def reports (v : Word) (n : Named) : Bool := n.reportedAt.contains (fieldOf v n.field)

/-- The name as the source spells it (R120, first column). -/
def Named.spelling : Named → String
  | .rndr => "RNDR register" | .rndrrs => "RNDRRS register"
  | .outerShareableTlbMaintenance => "Outer Shareable TLB maintenance instructions"
  | .tlbRangeMaintenance => "TLB range maintenance instructions"
  | .cfinv => "CFINV" | .rmif => "RMIF" | .setf16 => "SETF16" | .setf8 => "SETF8"
  | .axflag => "AXFLAG" | .xaflag => "XAFLAG"
  | .fmlal => "FMLAL" | .fmlsl => "FMLSL"
  | .udot => "UDOT" | .sdot => "SDOT"
  | .sm4e => "SM4E" | .sm4ekey => "SM4EKEY"
  | .sm3ss1 => "SM3SS1" | .sm3tt1a => "SM3TT1A" | .sm3tt1b => "SM3TT1B" | .sm3tt2a => "SM3TT2A"
  | .sm3tt2b => "SM3TT2B" | .sm3partw1 => "SM3PARTW1" | .sm3partw2 => "SM3PARTW2"
  | .eor3 => "EOR3" | .rax1 => "RAX1" | .xar => "XAR" | .bcax => "BCAX"
  | .sqrdmlah => "SQRDMLAH" | .sqrdmlsh => "SQRDMLSH"
  | .ldadd => "LDADD" | .ldclr => "LDCLR" | .ldeor => "LDEOR" | .ldset => "LDSET"
  | .ldsmax => "LDSMAX" | .ldsmin => "LDSMIN" | .ldumax => "LDUMAX" | .ldumin => "LDUMIN"
  | .cas => "CAS" | .casp => "CASP" | .swp => "SWP"
  | .ldclrp => "LDCLRP" | .ldsetp => "LDSETP" | .swpp => "SWPP"
  | .crc32b => "CRC32B" | .crc32h => "CRC32H" | .crc32w => "CRC32W" | .crc32x => "CRC32X"
  | .crc32cb => "CRC32CB" | .crc32ch => "CRC32CH" | .crc32cw => "CRC32CW" | .crc32cx => "CRC32CX"
  | .sha256h => "SHA256H" | .sha256h2 => "SHA256H2" | .sha256su0 => "SHA256SU0" | .sha256su1 => "SHA256SU1"
  | .sha512h => "SHA512H" | .sha512h2 => "SHA512H2" | .sha512su0 => "SHA512SU0" | .sha512su1 => "SHA512SU1"
  | .sha1c => "SHA1C" | .sha1p => "SHA1P" | .sha1m => "SHA1M" | .sha1h => "SHA1H"
  | .sha1su0 => "SHA1SU0" | .sha1su1 => "SHA1SU1"
  | .aese => "AESE" | .aesd => "AESD" | .aesmc => "AESMC" | .aesimc => "AESIMC"
  | .pmull => "PMULL" | .pmull2 => "PMULL2"

end Sys2Proof
end

