-- ==== Sys2Proof/Machine/ConfigCheck.lean ====
section
/-! DEFINITION. What a configuration determines: the register's value, the features it implements, and
whether it is well formed (rules R21, R22, R40 to R54 of 10_state.md, R107 of 40_mrs_read.md). -/

namespace Sys2Proof

/-- The parameter of a field; the two reserved nibbles are zero (R22, R33, R39, decision D3). -/
def Config.param (c : Config) : Field → Nibble
  | .rndr => c.pRndr | .tlb => c.pTlb | .ts => c.pTs | .fhm => c.pFhm
  | .dp => c.pDp | .sm4 => c.pSm4 | .sm3 => c.pSm3 | .sha3 => c.pSha3
  | .rdm => c.pRdm | .res27_24 => 0b0000 | .atomic => c.pAtomic | .crc32 => c.pCrc32
  | .sha2 => c.pSha2 | .sha1 => c.pSha1 | .aes => c.pAes | .res3_0 => 0b0000

/-- `IDISAR0`, the value of the register: the concatenation of R22, most significant nibble first. -/
def Config.idisar0 (c : Config) : Word :=
  c.pRndr ++ c.pTlb ++ c.pTs ++ c.pFhm ++ c.pDp ++ c.pSm4 ++ c.pSm3 ++ c.pSha3
    ++ c.pRdm ++ (0b0000 : Nibble) ++ c.pAtomic ++ c.pCrc32 ++ c.pSha2 ++ c.pSha1 ++ c.pAes
    ++ (0b0000 : Nibble)

/-- The configuration with the fourteen field values of `v`, the rest as in `c`. -/
def Config.withFields (c : Config) (v : Word) : Config :=
  { c with
    pRndr := fieldOf v .rndr, pTlb := fieldOf v .tlb, pTs := fieldOf v .ts, pFhm := fieldOf v .fhm
    pDp := fieldOf v .dp, pSm4 := fieldOf v .sm4, pSm3 := fieldOf v .sm3, pSha3 := fieldOf v .sha3
    pRdm := fieldOf v .rdm, pAtomic := fieldOf v .atomic, pCrc32 := fieldOf v .crc32
    pSha2 := fieldOf v .sha2, pSha1 := fieldOf v .sha1, pAes := fieldOf v .aes }

/-- The field and the values that identify a feature (the table of R44, decision D8: the extended value
sets). The seven features without a row are parameters of their own (R6). -/
def Feature.identifiedBy : Feature → Option (Field × List Nibble)
  | .aa64 | .idst | .idte3 | .rngTrap | .fp16 | .advSimd | .sveF16f32mm => none
  | .rng => some (.rndr, [0b0001])
  | .tlbios => some (.tlb, [0b0001, 0b0010])
  | .tlbirange => some (.tlb, [0b0010])
  | .flagM => some (.ts, [0b0001, 0b0010])
  | .flagM2 => some (.ts, [0b0010])
  | .fhm => some (.fhm, [0b0001])
  | .dotProd => some (.dp, [0b0001])
  | .sm4 => some (.sm4, [0b0001])
  | .sm3 => some (.sm3, [0b0001])
  | .sha3 => some (.sha3, [0b0001])
  | .rdm => some (.rdm, [0b0001])
  | .lse => some (.atomic, [0b0010, 0b0011])
  | .lse128 => some (.atomic, [0b0011])
  | .crc32 => some (.crc32, [0b0001])
  | .sha256 => some (.sha2, [0b0001, 0b0010])
  | .sha512 => some (.sha2, [0b0010])
  | .sha1 => some (.sha1, [0b0001])
  | .aes => some (.aes, [0b0001, 0b0010])
  | .pmull => some (.aes, [0b0010])

/-- A feature that is a parameter of its own (R6). A feature a field identifies is not looked up here. -/
def Config.featureParam (c : Config) : Feature → Bool
  | .aa64 => c.featAA64
  | .idst => c.featIDST
  | .idte3 => c.featIDTE3
  | .rngTrap => c.featRNGTRAP
  | .fp16 => c.featFP16
  | .advSimd => c.featAdvSIMD
  | .sveF16f32mm => c.featSVEF16F32MM
  | .rng | .tlbios | .tlbirange | .flagM | .flagM2 | .fhm | .dotProd | .sm4 | .sm3 | .sha3 | .rdm | .lse
  | .lse128 | .crc32 | .sha256 | .sha512 | .sha1 | .aes | .pmull => false

/-- `IsFeatureImplemented(F)` (R13, R44). -/
def Config.isFeatureImplemented (c : Config) (f : Feature) : Bool :=
  match f.identifiedBy with
  | some (fld, vs) => vs.contains (c.param fld)
  | none => c.featureParam f

/-- `ArchAtLeast(v)` (R54). -/
def ArchTests.atLeast (a : ArchTests) : ArchVersion → Bool
  | .armv8_1 => a.atLeast8_1 | .armv8_4 => a.atLeast8_4 | .armv8_5 => a.atLeast8_5 | .armv9_7 => a.atLeast9_7

/-- `ArchIs(v)` (R54). -/
def ArchTests.is (a : ArchTests) : ArchVersion → Bool
  | .armv8_1 => a.is8_1 | .armv8_4 => a.is8_4 | .armv8_5 => a.is8_5 | .armv9_7 => a.is9_7

/-- `p` implies `q`, on Booleans. -/
def implies (p q : Bool) : Bool := !p || q

/-- `WF_values` of R53, on the sixteen slices of a 64-bit value: every named field holds a defined value
(R21) and both reserved nibbles are zero. -/
def wfValues (v : Word) : Bool := Field.all.all fun f => f.defined.contains (fieldOf v f)

/-- The legal triples (SHA1, SHA2, SHA3) (R42, R53). -/
def shaTriples : List (Nibble × Nibble × Nibble) := [(0, 0, 0), (1, 1, 0), (1, 2, 1)]

/-- `WF_cross` of R53: SM4 equals SM3 (R40), and the SHA triple is legal (R41, R42). -/
def wfCross (v : Word) : Bool :=
  (fieldOf v .sm4 == fieldOf v .sm3)
    && shaTriples.contains (fieldOf v .sha1, fieldOf v .sha2, fieldOf v .sha3)

/-- `WF_feature` of R53 (R43). -/
def Config.wfFeature (c : Config) : Bool :=
  implies (c.pSm4 == 1) (c.isFeatureImplemented .sm4)
    && implies (c.pSm3 == 1) (c.isFeatureImplemented .sm3)
    && implies (c.pSha3 == 1) (c.isFeatureImplemented .sha3)

/-- The lines of `WF_version` that both variants share: all but the one on TS from Armv8.5
(R45, the first sentence of R46, R47, R49 to R52). -/
def Config.wfVersionShared (c : Config) : Bool :=
  implies (c.arch.atLeast .armv8_1) (c.pRdm == 1 && [2, 3].contains c.pAtomic && c.pCrc32 == 1)
    && implies (c.arch.atLeast .armv8_4) (c.pTlb == 2)
    && implies (c.arch.is .armv8_4) ([1, 2].contains c.pTs)
    && implies (c.arch.atLeast .armv8_4 && c.isFeatureImplemented .fp16) (c.pFhm == 1)
    && implies (c.arch.atLeast .armv8_4 && c.isFeatureImplemented .advSimd) (c.pDp == 1)

/-- `WF_version` of R53, the literal reading of TS (R46, decision D5). The Armv9.7 sentence on FHM adds no
line (R48, decision D6). -/
def Config.wfVersion (c : Config) : Bool :=
  c.wfVersionShared && implies (c.arch.atLeast .armv8_5) ([0, 2].contains c.pTs)

/-- `WF_version_strict` of R53: from Armv8.5 TS is 0b0010 (R46). -/
def Config.wfVersionStrict (c : Config) : Bool :=
  c.wfVersionShared && implies (c.arch.atLeast .armv8_5) (c.pTs == 2)

/-- The laws of the two version tests (R54, decision D7). -/
def ArchTests.lawful (a : ArchTests) : Bool :=
  implies a.is8_1 a.atLeast8_1 && implies a.is8_4 a.atLeast8_4
    && implies a.is8_5 a.atLeast8_5 && implies a.is9_7 a.atLeast9_7
    && implies a.atLeast9_7 a.atLeast8_5 && implies a.atLeast8_5 a.atLeast8_4
    && implies a.atLeast8_4 a.atLeast8_1 && implies a.atLeast8_5 (!a.is8_4)

/-- Whether a configuration passes a check (R53, R54, R107, decisions D4, D7, D9, D19). -/
def Config.passes (c : Config) : ConfigCheck → Bool
  | .wfValues => wfValues c.idisar0
  | .wfCross => wfCross c.idisar0
  | .wfFeature => c.wfFeature
  | .wfVersion => c.wfVersion
  | .archLaws => c.arch.lawful
  | .rngTrapNeedsEL3 => implies c.featRNGTRAP c.haveEL3
  | .rndrViewRange => c.rndrViewTable.toList.all fun n => Field.rndr.defined.contains n

/-- The checks in the order they are made: the four of R53 first. -/
def ConfigCheck.all : List ConfigCheck :=
  [.wfValues, .wfCross, .wfFeature, .wfVersion, .archLaws, .rngTrapNeedsEL3, .rndrViewRange]

/-- `WF` of R53. -/
def Config.wf (c : Config) : Bool :=
  c.passes .wfValues && c.passes .wfCross && c.passes .wfFeature && c.passes .wfVersion

/-- The first check the configuration fails, if any (decision D4: a refusal names the failed check). -/
def Config.firstFailed (c : Config) : Option ConfigCheck := ConfigCheck.all.find? fun k => !c.passes k

/-- `RNDR_VIEW(p, b)`, looked up in the parameter (R107, decision D9). -/
def Config.rndrView (c : Config) (p : Nibble) (b : Bit) : Nibble :=
  c.rndrViewTable[2 * p.toNat + b.toNat]'(by have := p.isLt; have := b.isLt; omega)

end Sys2Proof
end

