-- ==== Sys2Proof/Machine/State.lean ====
section
/-! DEFINITION. The state, as plain data: everything the spec gives the machine (rules R6, R7 of 00_scope.md,
R55 to R60 of 10_state.md), the ways a step can stop, and the state right after reset. INVENTORY.md
lists every piece with its rule and its reset value. -/

namespace Sys2Proof
namespace Machine

/-- The Exception levels, the four values of `PSTATE.EL` (R55, decision D22). -/
inductive EL where
  | el0 | el1 | el2 | el3
deriving DecidableEq, Repr

/-- The two fields of `HCR_EL2` the spec knows (R56). -/
structure HcrEl2 where
  tge : Bit
  tid3 : Bit
deriving DecidableEq, Repr

/-- The two fields of `SCR_EL3` the spec knows (R57). -/
structure ScrEl3 where
  tid3 : Bit
  trndr : Bit
deriving DecidableEq, Repr

/-- The inputs of a step, read from the machine at the instant the `MRS` executes (R7). No instruction of
this spec writes one. -/
structure Inputs where
  /-- `PSTATE.EL` (R55). -/
  el : EL
  /-- `EL2Enabled()` (R58, decision D18: no law). -/
  el2Enabled : Bool
  /-- `HCR_EL2` (R56). -/
  hcrEl2 : HcrEl2
  /-- `SCR_EL3` (R57). -/
  scrEl3 : ScrEl3
  /-- `EL3SDDUndefPriority()` (R58, R153). -/
  el3SDDUndefPriority : Bool
  /-- `EL3SDDUndef()` (R58, R153). -/
  el3SDDUndef : Bool
deriving DecidableEq, Repr

/-- A program text: what stands at each address, a parameter of the model that no instruction writes (R80,
decision D17, log entry 16). Addresses rise strictly and lie below 2^64 (`ProgramText.wf`). -/
abbrev ProgramText := List (Nat × FetchItem)

/-- Addresses rise strictly from `lo` on and lie below 2^64. -/
def ProgramText.risesFrom : Nat → ProgramText → Bool
  | _, [] => true
  | lo, (a, _) :: rest => decide (lo ≤ a) && decide (a < 2 ^ 64) && risesFrom (a + 1) rest

/-- The canonical form of a program text: equal texts are equal lists. -/
def ProgramText.wf (p : ProgramText) : Bool := ProgramText.risesFrom 0 p

/-- The machine's state. -/
structure State where
  /-- `X[0]` to `X[30]` (R59); 31 names no register (R108). -/
  x : Vector Word 31
  /-- The address of the instruction about to execute (R60, decision D12). -/
  pc : Word
  /-- The inputs current at this step (R7). -/
  inputs : Inputs
  /-- The inputs of the steps after this one, in order; when none is left the current ones stay
  (log entry 19: DESIGN CHOICE). -/
  laterInputs : List Inputs
  /-- The constants of the implementation, the register's value among them (R6, R22, R23). -/
  config : Config
  /-- The program text (R80). -/
  program : ProgramText
deriving DecidableEq, Repr

/-- How the access ends (R100): exactly one of four kinds. -/
inductive AccessOutcome where
  /-- `X[t, 64] = ID_AA64ISAR0_EL1` (R106). -/
  | completedRead
  /-- `UNDEFINED` (R141). -/
  | undefined
  /-- `AArch64.SystemAccessTrap(target, number)` (R142). -/
  | systemAccessTrap (target : EL) (number : Nat)
  /-- `UnimplementedIDRegister()` (R143). -/
  | unimplementedIDRegister
deriving DecidableEq, Repr

/-- The terminal outcomes (R140, R147, decision D15). The spec describes no entry into a handler, so the run
ends here, with the state of the step before it. -/
inductive Fault where
  /-- The access is UNDEFINED; it names the `pc` of the `MRS` and carries nothing else (R141), and
  `UnimplementedIDRegister()` is merged into it (R143, decision D1). Raised by the `MRS`. Safe: nothing can
  be proved of what follows. -/
  | undefined (pc : Word)
  /-- The access is trapped to `target` with `number`, 0x18 in every case, at `pc`, with the register number
  `t` (R142, R144). Raised by the `MRS`. Safe: nothing can be proved of what follows. -/
  | systemAccessTrap (target : EL) (number : Nat) (pc : Word) (t : RegNum)
deriving DecidableEq, Repr

/-- Why the machine refuses to step. -/
inductive Refusal where
  /-- An instruction whose arm in exec has no meaning yet. No arm raises it. Safe. -/
  | notModelled (mnemonic : String)
  /-- The configuration fails a check, so it is no configuration of this hardware (R53, decision D4). Raised
  by step, before anything is fetched. Safe. -/
  | configRefused (check : ConfigCheck)
  /-- The program text holds nothing at the pc (log entry 17: DESIGN CHOICE). Raised by step. Safe. -/
  | noInstructionAt (pc : Word)
  /-- The write direction to the register's selector (R92, decision D14). Raised by step, from the decoder.
  Safe. -/
  | writeFormToReadOnlyRegister (pc : Word)
  /-- Any other word (R93, decision D14). Raised by step, from the decoder. Safe. -/
  | notInThisSpec (pc : Word)
  /-- An instruction the register's fields name and the spec does not specify (R121). Raised by step, from the
  decoder. Safe. -/
  | namedNotSpecified (n : Named) (pc : Word)
deriving DecidableEq, Repr

/-- The configuration State.reset carries: `FEAT_AA64` true (R2) and EL3 implemented; every other Boolean
false and every field zero (log entry 25: DESIGN CHOICE, every other configuration is as good). -/
def resetConfig : Config :=
  { pRndr := 0, pTlb := 0, pTs := 0, pFhm := 0, pDp := 0, pSm4 := 0, pSm3 := 0, pSha3 := 0
    pRdm := 0, pAtomic := 0, pCrc32 := 0, pSha2 := 0, pSha1 := 0, pAes := 0
    featAA64 := true, featIDST := false, featIDTE3 := false, featRNGTRAP := false, haveEL3 := true
    featFP16 := false, featAdvSIMD := false, featSVEF16F32MM := false
    arch :=
      { atLeast8_1 := false, atLeast8_4 := false, atLeast8_5 := false, atLeast9_7 := false
        is8_1 := false, is8_4 := false, is8_5 := false, is9_7 := false }
    rndrViewTable := Vector.replicate 32 0 }

/-- `PSTATE.EL` right after reset of an implementation `c`, which the spec does not give (R65, R170): with EL3 the
highest implemented level, EL3 (log entry 24: PRESUMED, the family's); without EL3, EL1 (log entry 31: DESIGN
CHOICE, since the configuration does not say whether EL2 is implemented). -/
def resetLevel (c : Config) : EL := if c.haveEL3 then .el3 else .el1

/-- The inputs right after reset of an implementation `c`: the level of `resetLevel`, and every control bit and
predicate clear (log entry 23: DESIGN CHOICE). -/
def resetInputs (c : Config) : Inputs :=
  { el := resetLevel c, el2Enabled := false, hcrEl2 := { tge := 0, tid3 := 0 }, scrEl3 := { tid3 := 0, trndr := 0 }
    el3SDDUndefPriority := false, el3SDDUndef := false }

/-- The state right after reset of an implementation `c`. The register needs no reset value but its one value,
which is in `c` (R64); the spec leaves everything else unspecified (R65, decision D23), so each value here
is the log's: zeros (log entry 23: DESIGN CHOICE), the level of `resetLevel` (log entries 24 and 31), no later
inputs, so that a run from here never changes its inputs (log entry 32: DESIGN CHOICE), and an empty program
text (log entry 26: DESIGN CHOICE). -/
def State.resetOf (c : Config) : State :=
  { x := Vector.replicate 31 0, pc := 0, inputs := resetInputs c, laterInputs := [], config := c
    program := [] }

/-- The machine right after reset. -/
def State.reset : State := State.resetOf resetConfig

end Machine
end Sys2Proof
end

