-- ==== Sys2Proof/Machine/Flags.lean ====
section
/-! DEFINITION. The spec has no condition flag (rule R61 of 10_state.md): the access reads and writes none. The
one-bit conditions the access tests are here, each the source's own conjunction, left to right
(R100, R111 of 40_mrs_read.md, decision D25). -/

namespace Sys2Proof
namespace Machine

/-- `EL2Enabled() && HCR_EL2.TGE == '1'` (R100; `E2T` of R111). -/
def el2TgeTrap (u : Inputs) : Bool := u.el2Enabled && u.hcrEl2.tge == 1#1

/-- `EL2Enabled() && HCR_EL2.TID3 == '1'` (R100; `E2I` of R111). -/
def el2IdTrap (u : Inputs) : Bool := u.el2Enabled && u.hcrEl2.tid3 == 1#1

/-- `T3`: `HaveEL(EL3) && IsFeatureImplemented(FEAT_IDTE3) && SCR_EL3.TID3 == '1'` (R100). -/
def el3IdTrap (c : Config) (u : Inputs) : Bool :=
  c.haveEL3 && c.isFeatureImplemented .idte3 && u.scrEl3.tid3 == 1#1

/-- `T3_PRIO`: `HaveEL(EL3) && EL3SDDUndefPriority() && IsFeatureImplemented(FEAT_IDTE3) &&
SCR_EL3.TID3 == '1'` (R100). -/
def el3IdTrapPriority (c : Config) (u : Inputs) : Bool :=
  c.haveEL3 && u.el3SDDUndefPriority && c.isFeatureImplemented .idte3 && u.scrEl3.tid3 == 1#1

end Machine
end Sys2Proof
end

