-- ==== Sys2Proof/WellFormed.lean ====
section
/-! DEFINITION. Which System register accesses are the instruction of the table (rules R85, R86 of
30_encoding.md). The well-formedness of a configuration is Machine/ConfigCheck.lean's. -/

namespace Sys2Proof

/-- The register's point of the System register encoding space, written in the digits of R86. -/
def idAa64isar0Point : Selector :=
  { op0 := 0b11#2, op1 := 0b000#3, crn := 0b0000#4, crm := 0b0110#4, op2 := 0b000#3 }

/-- An access is well formed when it reads, and each of its five selector fields has the value of R86; the
destination is free (R87). -/
def SysRegTerm.wf (m : SysRegTerm) : Bool :=
  (m.direction == .read)
    && (m.selector.op0 == idAa64isar0Point.op0) && (m.selector.op1 == idAa64isar0Point.op1)
    && (m.selector.crn == idAa64isar0Point.crn) && (m.selector.crm == idAa64isar0Point.crm)
    && (m.selector.op2 == idAa64isar0Point.op2)

/-- The abstract term of an instruction (R88, decision D13). -/
def Instr.term : Instr → SysRegTerm
  | .mrsIdAa64isar0El1 t => { direction := .read, selector := idAa64isar0Point, t := t }

/-- An instruction is well formed when its term is. Its register number is 5 bits wide by its type, so no
instruction is ill formed; an ill-formed access is one the decoder rejects. -/
def Instr.wf (i : Instr) : Bool := i.term.wf

end Sys2Proof
end

