-- ==== Sys2Proof/Decode.lean ====
section
/-! DEFINITION. The decoder, total on every word, and after it the encoder and the assembler form (rules R86
to R95 of 30_encoding.md, R121 of 41_identified_instructions.md). The placement of the fields in the
word is the spec's own, from general knowledge (R88, decision D13, log entry 13: PRESUMED). -/

namespace Sys2Proof

/-- Whether the word is of the System register move form: the fixed bits [31:22] and bit 20 (R88). -/
def isSysRegMove (w : InstrWord) : Bool :=
  (w.extractLsb' 22 10 == 0b1101010100#10) && (w.extractLsb' 20 1 == 1#1)

/-- The fields of a System register move: L is bit 21; op0 is bit 20 followed by bit 19; op1, CRn, CRm, op2
and Rt stand at [18:16], [15:12], [11:8], [7:5] and [4:0] (R88). -/
def termOfWord (w : InstrWord) : SysRegTerm :=
  { direction := if w.extractLsb' 21 1 == 1#1 then .read else .write
    selector :=
      { op0 := w.extractLsb' 20 1 ++ w.extractLsb' 19 1
        op1 := w.extractLsb' 16 3
        crn := w.extractLsb' 12 4
        crm := w.extractLsb' 8 4
        op2 := w.extractLsb' 5 3 }
    t := w.extractLsb' 0 5 }

/-- The instruction an abstract access is, or why it is rejected: the write direction to the same point by a
name of its own (R92), everything else as outside the spec (R93). -/
def decodeTerm (m : SysRegTerm) : Except Reject Instr :=
  if m.selector = idAa64isar0Point then
    match m.direction with
    | .read => .ok (.mrsIdAa64isar0El1 m.t)
    | .write => .error .writeFormToReadOnly
  else .error .notInThisSpec

/-- The decoder over 32-bit words (R88, R92, R93). -/
def decodeWord (w : InstrWord) : Except Reject Instr :=
  if isSysRegMove w then decodeTerm (termOfWord w) else .error .notInThisSpec

/-- The decoder over what stands in a program text: a name has no encoding and is rejected by its own name
(R121). -/
def decodeItem : FetchItem → Except Reject Instr
  | .word w => decodeWord w
  | .named n => .error (.namedNotSpecified n)

/-- What the decoder says, in the words of R92, R93 and R121. -/
def Reject.message : Reject → String
  | .writeFormToReadOnly => "write form to a read-only ID register: not in source"
  | .notInThisSpec => "not in this spec"
  | .namedNotSpecified _ => "named by ID_AA64ISAR0_EL1, not specified in source"

/-- The word of an abstract access with op0 = 1:o0: the layout of R88, most significant field first. -/
def wordOfTerm (m : SysRegTerm) : InstrWord :=
  0b1101010100#10 ++ (match m.direction with | .read => 1#1 | .write => 0#1) ++ m.selector.op0
    ++ m.selector.op1 ++ m.selector.crn ++ m.selector.crm ++ m.selector.op2 ++ m.t

/-- The encoder: the word of an instruction (R86, R88). -/
def encode (i : Instr) : InstrWord := wordOfTerm i.term

/-- The spelling of `<Xt>`: `X0` to `X30`, and `XZR` for 31 (R95). -/
def xtSpelling (t : RegNum) : String := if t = 31 then "XZR" else "X" ++ toString t.toNat

/-- The assembler form (R95). -/
def Instr.asm : Instr → String
  | .mrsIdAa64isar0El1 t => "MRS " ++ xtSpelling t ++ ", ID_AA64ISAR0_EL1"

/-- The generic spelling of a System register, from the decimal values of its selector (R95). -/
def Selector.genericName (s : Selector) : String :=
  "S" ++ toString s.op0.toNat ++ "_" ++ toString s.op1.toNat ++ "_C" ++ toString s.crn.toNat
    ++ "_C" ++ toString s.crm.toNat ++ "_" ++ toString s.op2.toNat

/-- The instruction the decoder reads from an instruction whose bits are `w`, numbered as the opcode table
numbers them. The one instruction is one 32-bit word, given as a number (R72, R88); bits above `nbits`
are zero, and a number that does not fit 32 bits is no instruction of this spec. -/
def decodeTableWord (nbits w : Nat) : Option Instr :=
  if w % 2 ^ nbits < 2 ^ 32 then
    match decodeWord (BitVec.ofNat 32 (w % 2 ^ nbits)) with
    | .ok i => some i
    | .error _ => none
  else none

end Sys2Proof
end

