-- ==== Sys2Proof/Machine/Ops.lean ====
section
/-! DEFINITION. The operations the meanings share: registers and pc (rules R13, R59, R60), the program text
(R80), the inputs (R7), and the three ways an access ends without completing (R141 to R143, R147 of
60_exceptions.md). -/

namespace Sys2Proof
namespace Machine

/-- `x[i]`, a read of general register `i` (R13). No rule of the spec reads one; statements do. -/
def State.readX (s : State) (i : Fin 31) : Word := s.x[i]

/-- `x[t] <- v`, a write of all 64 bits of general register `t` (R13, R59); for `t` = 31 the value is
discarded and no register is written (R108, log entry 11: PRESUMED). -/
def State.writeX (s : State) (t : RegNum) (v : Word) : State :=
  if h : t.toNat < 31 then { s with x := s.x.set t.toNat v h } else s

/-- `pc <- pc + 4`, modulo 2^64 (R60, R109, R113, log entry 12: PRESUMED). -/
def State.advancePc (s : State) : State := { s with pc := s.pc + 4 }

/-- What the program text holds at an address. -/
def programRead : ProgramText → Nat → Option FetchItem
  | [], _ => none
  | (a, item) :: rest, n => if a = n then some item else programRead rest n

/-- The program text with `item` at address `n`, in canonical form. No instruction does this (R80); it places
a program in the machine from outside. -/
def programWrite : ProgramText → Nat → FetchItem → ProgramText
  | [], n, item => [(n, item)]
  | (a, old) :: rest, n, item =>
    if n < a then (n, item) :: (a, old) :: rest
    else if n = a then (n, item) :: rest
    else (a, old) :: programWrite rest n item

/-- What the machine fetches: the program text at the pc, with no check of the pc's alignment (R73, decision
D16). -/
def State.fetch (s : State) : Option FetchItem := programRead s.program s.pc.toNat

/-- The next step's inputs become current; when none is given the current ones stay (R7, log entry 19). -/
def State.takeNextInputs (s : State) : State :=
  match s.laterInputs with
  | [] => s
  | u :: rest => { s with inputs := u, laterInputs := rest }

/-- The refusal of an item the decoder rejects, at the pc it stands at (R92, R93, R121). -/
def State.refuse (s : State) : Reject → Refusal
  | .writeFormToReadOnly => .writeFormToReadOnlyRegister s.pc
  | .notInThisSpec => .notInThisSpec s.pc
  | .namedNotSpecified n => .namedNotSpecified n s.pc

/-- `raise Undefined` (R13, R141): terminal, with the pc of the instruction, nothing written (R147). -/
def raiseUndefined (s : State) : Host.Outcome State Fault Refusal := .fault (.undefined s.pc)

/-- `raise SystemAccessTrap(target, number)` (R13, R142): terminal, with the pc and `t`, nothing written
(R147). -/
def raiseSystemAccessTrap (target : EL) (number : Nat) (t : RegNum) (s : State) :
    Host.Outcome State Fault Refusal :=
  .fault (.systemAccessTrap target number s.pc t)

/-- `raise UnimplementedIDRegister` (R13, R143): the same outcome as `Undefined` (decision D1,
90_conflicts.md C3). -/
def raiseUnimplementedIDRegister (s : State) : Host.Outcome State Fault Refusal := raiseUndefined s

/-- How an instruction's outcome becomes the step's: on a next state the next inputs become current; a
terminal outcome stands as it is (R147). -/
def finishStep : Host.Outcome State Fault Refusal → Host.Outcome State Fault Refusal
  | .next s => .next s.takeNextInputs
  | .fault f => .fault f
  | .refused r => .refused r

end Machine
end Sys2Proof
end

