-- ==== Sys2Proof/Machine/Operands.lean ====
section
/-! DEFINITION. The one source operand, the value a read of the register returns (rule R107 of
40_mrs_read.md). The destination operand `<Xt>` is `State.writeX` (R59, R87, R108). The form has no
immediate (R89). -/

namespace Sys2Proof
namespace Machine

/-- The RNDR nibble as a direct read returns it (R24, R107): `SCR_EL3.TRNDR` is looked at only when
`FEAT_RNG_TRAP` is implemented. -/
def rndrAsRead (c : Config) (u : Inputs) : Nibble :=
  if c.isFeatureImplemented .rngTrap then c.rndrView c.pRndr u.scrEl3.trndr else c.pRndr

/-- `ReadValue` (R107): the RNDR nibble as read, above bits [59:0] of the register. -/
def readValue (c : Config) (u : Inputs) : Word := rndrAsRead c u ++ c.idisar0.extractLsb' 0 60

end Machine
end Sys2Proof
end

