-- ==== Sys2Proof/Machine/SystemRegister.lean ====
section
/-! DEFINITION. The meaning of `MRS <Xt>, ID_AA64ISAR0_EL1` (rules R100 to R110 of 40_mrs_read.md), and the
outcome table of R111 beside it. -/

namespace Sys2Proof
namespace Machine

/-- The number every trap of this access carries (R142, R144). -/
def trapNumber : Nat := 0x18

/-- The access pseudocode of R100, branch by branch in the source's order, with the completed read left to
`completedRead`. -/
def accessOutcome (c : Config) (u : Inputs) : AccessOutcome :=
  if !c.isFeatureImplemented .aa64 then .unimplementedIDRegister
  else
    match u.el with
    | .el0 =>
      if c.isFeatureImplemented .idst then
        if el2TgeTrap u then .systemAccessTrap .el2 trapNumber
        else .systemAccessTrap .el1 trapNumber
      else .undefined
    | .el1 =>
      if el3IdTrapPriority c u then .undefined
      else if el2IdTrap u then .systemAccessTrap .el2 trapNumber
      else if el3IdTrap c u then
        if u.el3SDDUndef then .undefined else .systemAccessTrap .el3 trapNumber
      else .completedRead
    | .el2 =>
      if el3IdTrapPriority c u then .undefined
      else if el3IdTrap c u then
        if u.el3SDDUndef then .undefined else .systemAccessTrap .el3 trapNumber
      else .completedRead
    | .el3 => .completedRead

/-- `CompletedRead(t)` (R106): the value goes to `X[t]` and the pc advances; nothing else is written. -/
def completedRead (t : RegNum) (s : State) : State :=
  (s.writeX t (readValue s.config s.inputs)).advancePc

/-- `MRS <Xt>, ID_AA64ISAR0_EL1` (R100 to R110). -/
def execMrsIdAa64isar0El1 (t : RegNum) (s : State) : Host.Outcome State Fault Refusal :=
  match accessOutcome s.config s.inputs with
  | .completedRead => .next (completedRead t s)
  | .undefined => raiseUndefined s
  | .systemAccessTrap target number => raiseSystemAccessTrap target number t s
  | .unimplementedIDRegister => raiseUnimplementedIDRegister s

/-- A row of the outcome table of R111; `none` is the table's `-`, an input the row does not look at. -/
structure OutcomeRow where
  aa64 : Bool
  el : Option EL
  idst : Option Bool
  e2t : Option Bool
  t3 : Option Bool
  prio : Option Bool
  e2i : Option Bool
  sdd : Option Bool
  outcome : AccessOutcome
deriving DecidableEq, Repr

/-- The fifteen rows of R111, in the table's order. -/
def outcomeTable : List OutcomeRow :=
  [⟨false, none, none, none, none, none, none, none, .unimplementedIDRegister⟩,
   ⟨true, some .el0, some false, none, none, none, none, none, .undefined⟩,
   ⟨true, some .el0, some true, some true, none, none, none, none, .systemAccessTrap .el2 0x18⟩,
   ⟨true, some .el0, some true, some false, none, none, none, none, .systemAccessTrap .el1 0x18⟩,
   ⟨true, some .el1, none, none, some true, some true, none, none, .undefined⟩,
   ⟨true, some .el1, none, none, some true, some false, some true, none, .systemAccessTrap .el2 0x18⟩,
   ⟨true, some .el1, none, none, some false, none, some true, none, .systemAccessTrap .el2 0x18⟩,
   ⟨true, some .el1, none, none, some true, some false, some false, some true, .undefined⟩,
   ⟨true, some .el1, none, none, some true, some false, some false, some false,
     .systemAccessTrap .el3 0x18⟩,
   ⟨true, some .el1, none, none, some false, none, some false, none, .completedRead⟩,
   ⟨true, some .el2, none, none, some true, some true, none, none, .undefined⟩,
   ⟨true, some .el2, none, none, some true, some false, none, some true, .undefined⟩,
   ⟨true, some .el2, none, none, some true, some false, none, some false, .systemAccessTrap .el3 0x18⟩,
   ⟨true, some .el2, none, none, some false, none, none, none, .completedRead⟩,
   ⟨true, some .el3, none, none, none, none, none, none, .completedRead⟩]

/-- A cell of the table agrees with the value it stands over. -/
def cellMatches {α : Type} [DecidableEq α] (cell : Option α) (value : α) : Bool :=
  match cell with
  | none => true
  | some v => decide (v = value)

/-- The row applies to this configuration and these inputs. -/
def OutcomeRow.applies (r : OutcomeRow) (c : Config) (u : Inputs) : Bool :=
  (r.aa64 == c.isFeatureImplemented .aa64) && cellMatches r.el u.el
    && cellMatches r.idst (c.isFeatureImplemented .idst) && cellMatches r.e2t (el2TgeTrap u)
    && cellMatches r.t3 (el3IdTrap c u) && cellMatches r.prio u.el3SDDUndefPriority
    && cellMatches r.e2i (el2IdTrap u) && cellMatches r.sdd u.el3SDDUndef

end Machine
end Sys2Proof
end

