-- ==== Sys2Proof/Machine/Dispatch.lean ====
section
/-! DEFINITION. One arm per constructor of Instr (rule R90 of 30_encoding.md: the opcode table has one row). -/

namespace Sys2Proof
namespace Machine

def exec (i : Instr) (s : State) : Host.Outcome State Fault Refusal :=
  match i with
  | .mrsIdAa64isar0El1 t => Sys2Proof.Machine.execMrsIdAa64isar0El1 t s

end Machine
end Sys2Proof
end

