-- ==== Sys2Proof/Machine/Step.lean ====
section
/-! DEFINITION. One step: the configuration is checked (rule R53, decision D4), the item at the pc is fetched
and decoded (R80, R93), the instruction runs (R110: one indivisible step), and the next inputs become
current (R7). Nothing can arrive between two steps (R145). -/

namespace Sys2Proof
namespace Machine

/-- One step of the machine. -/
def step (s : State) : Host.Outcome State Fault Refusal :=
  match s.config.firstFailed with
  | some k => .refused (.configRefused k)
  | none =>
    match s.fetch with
    | none => .refused (.noInstructionAt s.pc)
    | some item =>
      match decodeItem item with
      | .error r => .refused (s.refuse r)
      | .ok i => finishStep (exec i s)

/-- The state with the word of a table row where step fetches: the program text at the pc (log entry 26). The
bits above `nbits` are zero. -/
def State.withFetchWord (s : State) (nbits w : Nat) : State :=
  { s with program := programWrite s.program s.pc.toNat (.word (BitVec.ofNat 32 (w % 2 ^ nbits))) }

end Machine
end Sys2Proof
end

