-- ==== Sys2Proof/Safety.lean ====
section
/-! DEFINITION. What a run is and what counts as a safe one (rules R147, R171). A fault or a refusal ends a run;
what it leaves is the state of the step that raised it: the register file and the pc unchanged. -/

namespace Sys2Proof
namespace Machine

/-- Why a run ended. -/
inductive Stop where
  | fault (f : Fault)
  | refused (r : Refusal)
deriving DecidableEq, Repr

/-- Where a run stands: its state, and the stop that ended it, if one did. -/
structure RunEnd where
  last : State
  stop : Option Stop
deriving DecidableEq, Repr

/-- At most `k` steps. A terminal outcome ends the run there, with the state unchanged (R147). -/
def runFrom : Nat → State → RunEnd
  | 0, s => { last := s, stop := none }
  | k + 1, s =>
    match step s with
    | .next s' => runFrom k s'
    | .fault f => { last := s, stop := some (.fault f) }
    | .refused r => { last := s, stop := some (.refused r) }

/-- The pc a fault names. -/
def Fault.pc : Fault → Word
  | .undefined pc => pc
  | .systemAccessTrap _ _ pc _ => pc

/-- A run of `k` steps is safe when no access of it is UNDEFINED or trapped and nothing is refused (R147: a
claim that a program runs to its end must show this). -/
def safeRun (k : Nat) (s : State) : Bool := (runFrom k s).stop.isNone

/-- `s'` is reached from `s` in `k` steps, none of which stopped. -/
def Reaches (k : Nat) (s s' : State) : Prop := runFrom k s = { last := s', stop := none }

end Machine
end Sys2Proof
end

