-- ==== Sys2Proof/Certificates/Slice0/Obligations.lean ====
section
/-! DEFINITION. The statements for the provers. OBLIGATIONS.json says for each what it formalises. -/

namespace Sys2Proof
namespace Claims

open Machine

/-- `T3` of R100: the EL3 trap is armed. -/
def El3Armed (s : State) : Prop :=
  s.config.haveEL3 = true ∧ s.config.featIDTE3 = true ∧ s.inputs.scrEl3.tid3 = 1#1

/-- `E2I` of R111: the EL2 trap is armed. -/
def El2Armed (s : State) : Prop := s.inputs.el2Enabled = true ∧ s.inputs.hcrEl2.tid3 = 1#1

/-- `E2T` of R111: an EL0 access goes to EL2. -/
def El2TakesEL0 (s : State) : Prop := s.inputs.el2Enabled = true ∧ s.inputs.hcrEl2.tge = 1#1

/-- What a completed read needs, on the state alone (R171; rows 10, 14 and 15 of R111). -/
def ReadCompletes (s : State) : Prop :=
  s.config.featAA64 = true ∧
    (s.inputs.el = .el3 ∨ (s.inputs.el = .el2 ∧ ¬ El3Armed s)
      ∨ (s.inputs.el = .el1 ∧ ¬ El3Armed s ∧ ¬ El2Armed s))

/-- The order of privilege, EL0 lowest (R150). -/
def level : EL → Nat
  | .el0 => 0 | .el1 => 1 | .el2 => 2 | .el3 => 3

/-- The two states' priority tests `T3_PRIO` read alike: `EL3SDDUndefPriority()`, and `SCR_EL3.TID3` only after it
is true (R103, R104, decision D25); or `SCR_EL3.TID3`, where `EL3SDDUndefPriority()` cannot matter unless it is 1
(R111). -/
def PriorityTestAgrees (u v : Inputs) : Prop :=
  (u.el3SDDUndefPriority = v.el3SDDUndefPriority
      ∧ (u.el3SDDUndefPriority = true → u.scrEl3.tid3 = v.scrEl3.tid3))
    ∨ (u.scrEl3.tid3 = v.scrEl3.tid3
      ∧ (u.scrEl3.tid3 = 1#1 → u.el3SDDUndefPriority = v.el3SDDUndefPriority))

/-- `v` agrees with the inputs of `s` in those that are read on the path the access takes at `s` (the "State read"
of R101 to R105, and R107, decision D25): nothing without `FEAT_AA64`; the EL2 control at EL1 only where the
priority test did not decide; the EL3 control, and then `EL3SDDUndef()`, only where no test before decided;
`SCR_EL3.TRNDR` only where the read completes. -/
def ConsultedAgree (s : State) (v : Inputs) : Prop :=
  s.config.featAA64 = true →
    s.inputs.el = v.el
    ∧ (s.inputs.el = .el0 → s.config.featIDST = true →
        s.inputs.el2Enabled = v.el2Enabled ∧ (s.inputs.el2Enabled = true → s.inputs.hcrEl2.tge = v.hcrEl2.tge))
    ∧ (s.inputs.el = .el1 ∨ s.inputs.el = .el2 → s.config.haveEL3 = true → s.config.featIDTE3 = true →
        PriorityTestAgrees s.inputs v)
    ∧ (s.inputs.el = .el1 → ¬ (El3Armed s ∧ s.inputs.el3SDDUndefPriority = true) →
        s.inputs.el2Enabled = v.el2Enabled
          ∧ (s.inputs.el2Enabled = true → s.inputs.hcrEl2.tid3 = v.hcrEl2.tid3))
    ∧ ((s.inputs.el = .el1 ∧ ¬ El2Armed s) ∨ s.inputs.el = .el2 →
        ¬ (El3Armed s ∧ s.inputs.el3SDDUndefPriority = true) →
        s.config.haveEL3 = true → s.config.featIDTE3 = true →
          s.inputs.scrEl3.tid3 = v.scrEl3.tid3
            ∧ (s.inputs.scrEl3.tid3 = 1#1 → s.inputs.el3SDDUndef = v.el3SDDUndef))
    ∧ (ReadCompletes s → s.config.featRNGTRAP = true → s.inputs.scrEl3.trndr = v.scrEl3.trndr)

/-- Two outcomes cannot be told apart: the same fault, or next states with the same registers and pc. -/
def SameOutcome : Host.Outcome State Fault Refusal → Host.Outcome State Fault Refusal → Prop
  | .next a, .next b => a.x = b.x ∧ a.pc = b.pc
  | .fault f, .fault g => f = g
  | _, _ => False

/-- A value a completed read under `c` can return (R107). -/
def ReturnedByARead (c : Config) (v : Word) : Prop :=
  v.extractLsb' 0 60 = c.idisar0.extractLsb' 0 60
    ∧ (v.extractLsb' 60 4 = 0b0000#4 ∨ v.extractLsb' 60 4 = 0b0001#4)

/-- The machine's invariant: an accepted configuration (R53) and a program text in canonical form (R80). -/
def MachineInv (s : State) : Prop := s.config.firstFailed = none ∧ s.program.wf = true

/-- The invariant of a run from `start`: configuration and program text are as at the start, the machine's
invariant holds, and a general register holds what it held or a value a read can return. -/
def RunInv (start s : State) : Prop :=
  MachineInv s ∧ s.config = start.config ∧ s.program = start.program
    ∧ ∀ i : Fin 31, s.readX i = start.readX i ∨ ReturnedByARead start.config (s.readX i)

end Claims
end Sys2Proof

open Sys2Proof Sys2Proof.Machine Sys2Proof.Claims

/-- R22: the value of the register, slice by slice and as a number. The zero nibbles are the spec's decision D3
(log entry 3), the weight of a bit its decision D10 (log entry 10). -/
def Obligations.RegisterValueIsTheConcatenation : Prop :=
  ∀ c : Config,
    c.idisar0.extractLsb' 60 4 = c.pRndr ∧ c.idisar0.extractLsb' 56 4 = c.pTlb
    ∧ c.idisar0.extractLsb' 52 4 = c.pTs ∧ c.idisar0.extractLsb' 48 4 = c.pFhm
    ∧ c.idisar0.extractLsb' 44 4 = c.pDp ∧ c.idisar0.extractLsb' 40 4 = c.pSm4
    ∧ c.idisar0.extractLsb' 36 4 = c.pSm3 ∧ c.idisar0.extractLsb' 32 4 = c.pSha3
    ∧ c.idisar0.extractLsb' 28 4 = c.pRdm ∧ c.idisar0.extractLsb' 24 4 = 0b0000#4
    ∧ c.idisar0.extractLsb' 20 4 = c.pAtomic ∧ c.idisar0.extractLsb' 16 4 = c.pCrc32
    ∧ c.idisar0.extractLsb' 12 4 = c.pSha2 ∧ c.idisar0.extractLsb' 8 4 = c.pSha1
    ∧ c.idisar0.extractLsb' 4 4 = c.pAes ∧ c.idisar0.extractLsb' 0 4 = 0b0000#4
    ∧ c.idisar0.toNat
      = c.pRndr.toNat * 2 ^ 60 + c.pTlb.toNat * 2 ^ 56 + c.pTs.toNat * 2 ^ 52 + c.pFhm.toNat * 2 ^ 48
        + c.pDp.toNat * 2 ^ 44 + c.pSm4.toNat * 2 ^ 40 + c.pSm3.toNat * 2 ^ 36 + c.pSha3.toNat * 2 ^ 32
        + c.pRdm.toNat * 2 ^ 28 + c.pAtomic.toNat * 2 ^ 20 + c.pCrc32.toNat * 2 ^ 16
        + c.pSha2.toNat * 2 ^ 12 + c.pSha1.toNat * 2 ^ 8 + c.pAes.toNat * 2 ^ 4

/-- R20: the layout table, and that the ranges tile the register. That bit i of a value is the bit of weight 2^i,
as the third clause reads it, is the spec's decision D10 (R9, log entry 10). -/
def Obligations.FieldRangesTileTheRegister : Prop :=
  Field.all.map (fun f => (f, f.hi, f.lo))
      = [(.rndr, 63, 60), (.tlb, 59, 56), (.ts, 55, 52), (.fhm, 51, 48), (.dp, 47, 44), (.sm4, 43, 40),
         (.sm3, 39, 36), (.sha3, 35, 32), (.rdm, 31, 28), (.res27_24, 27, 24), (.atomic, 23, 20),
         (.crc32, 19, 16), (.sha2, 15, 12), (.sha1, 11, 8), (.aes, 7, 4), (.res3_0, 3, 0)]
    ∧ (∀ i : Nat, i < 64 → ∃! f : Field, f.lo ≤ i ∧ i ≤ f.hi)
    ∧ (∀ (v : Word) (f : Field) (i : Nat), f.lo ≤ i → i ≤ f.hi →
        (fieldOf v f).getLsbD (i - f.lo) = v.getLsbD i)

/-- R41, R42: the five sentences leave three triples of defined values, the model's cross check is these
sentences with R40, and 15552 register values pass the version-independent checks. The triples and the count are
what the spec derives from R41 in R42; that the two RES0 nibbles are zero in them is log entry 3. -/
def Obligations.LegalShaTriplesAndValueCount : Prop :=
  (∀ a b c : Nibble, a ∈ [0, 1] → b ∈ [0, 1, 2] → c ∈ [0, 1] →
    (((a = 0 → c = 0) ∧ (c = 1 → b = 2) ∧ (a = 0 → b = 0) ∧ (b = 2 → c = 1) ∧ (b = 0 → a = 0))
      ↔ ((a = 0 ∧ b = 0 ∧ c = 0) ∨ (a = 1 ∧ b = 1 ∧ c = 0) ∨ (a = 1 ∧ b = 2 ∧ c = 1))))
    ∧ (∀ v : Word, wfValues v = true →
        (wfCross v = true ↔
          fieldOf v .sm4 = fieldOf v .sm3
            ∧ (fieldOf v .sha1 = 0 → fieldOf v .sha3 = 0) ∧ (fieldOf v .sha3 = 1 → fieldOf v .sha2 = 2)
            ∧ (fieldOf v .sha1 = 0 → fieldOf v .sha2 = 0) ∧ (fieldOf v .sha2 = 2 → fieldOf v .sha3 = 1)
            ∧ (fieldOf v .sha2 = 0 → fieldOf v .sha1 = 0)))
    ∧ ∃ l : List Word, l.Nodup ∧ (∀ v, v ∈ l ↔ wfValues v = true ∧ wfCross v = true) ∧ l.length = 15552

/-- R53: the four checks and the strict variant, in the words of the rule, and the refusal that names a
failed one. The checks and the refusal are the spec's decisions D4, D5 and D6 (log entries 4, 5 and 6). That
`WF_feature` holds in every configuration rests on R44's definition of the features, decision D8 (log entry 8). -/
def Obligations.WellFormednessChecksSpelledOut : Prop :=
  (∀ c : Config,
    (c.passes .wfValues = true ↔
      c.pRndr ∈ [0, 1] ∧ c.pTlb ∈ [0, 1, 2] ∧ c.pTs ∈ [0, 1, 2] ∧ c.pFhm ∈ [0, 1] ∧ c.pDp ∈ [0, 1]
      ∧ c.pSm4 ∈ [0, 1] ∧ c.pSm3 ∈ [0, 1] ∧ c.pSha3 ∈ [0, 1] ∧ c.pRdm ∈ [0, 1] ∧ c.pAtomic ∈ [0, 2, 3]
      ∧ c.pCrc32 ∈ [0, 1] ∧ c.pSha2 ∈ [0, 1, 2] ∧ c.pSha1 ∈ [0, 1] ∧ c.pAes ∈ [0, 1, 2]
      ∧ c.idisar0.extractLsb' 24 4 = 0 ∧ c.idisar0.extractLsb' 0 4 = 0)
    ∧ (c.passes .wfCross = true ↔
      c.pSm4 = c.pSm3
      ∧ (c.pSha1, c.pSha2, c.pSha3) ∈ ([(0, 0, 0), (1, 1, 0), (1, 2, 1)] : List (Nibble × Nibble × Nibble)))
    ∧ (c.passes .wfFeature = true ↔
      (c.pSm4 = 1 → c.isFeatureImplemented .sm4 = true)
      ∧ (c.pSm3 = 1 → c.isFeatureImplemented .sm3 = true)
      ∧ (c.pSha3 = 1 → c.isFeatureImplemented .sha3 = true))
    ∧ c.passes .wfFeature = true
    ∧ (c.passes .wfVersion = true ↔
      (c.arch.atLeast8_1 = true → c.pRdm = 1 ∧ c.pAtomic ∈ [2, 3] ∧ c.pCrc32 = 1)
      ∧ (c.arch.atLeast8_4 = true → c.pTlb = 2)
      ∧ (c.arch.is8_4 = true → c.pTs ∈ [1, 2])
      ∧ (c.arch.atLeast8_5 = true → c.pTs ∈ [0, 2])
      ∧ (c.arch.atLeast8_4 = true → c.featFP16 = true → c.pFhm = 1)
      ∧ (c.arch.atLeast8_4 = true → c.featAdvSIMD = true → c.pDp = 1))
    ∧ (c.wfVersionStrict = true ↔
      (c.arch.atLeast8_1 = true → c.pRdm = 1 ∧ c.pAtomic ∈ [2, 3] ∧ c.pCrc32 = 1)
      ∧ (c.arch.atLeast8_4 = true → c.pTlb = 2)
      ∧ (c.arch.is8_4 = true → c.pTs ∈ [1, 2])
      ∧ (c.arch.atLeast8_5 = true → c.pTs = 2)
      ∧ (c.arch.atLeast8_4 = true → c.featFP16 = true → c.pFhm = 1)
      ∧ (c.arch.atLeast8_4 = true → c.featAdvSIMD = true → c.pDp = 1))
    ∧ (c.wf = true ↔
      c.passes .wfValues = true ∧ c.passes .wfCross = true ∧ c.passes .wfFeature = true
      ∧ c.passes .wfVersion = true))
    ∧ ∀ s : State, s.config.wf = false →
      ∃ k, k ∈ [ConfigCheck.wfValues, .wfCross, .wfFeature, .wfVersion] ∧ s.config.passes k = false
        ∧ step s = .refused (.configRefused k)

/-- What an accepted configuration is, and that a step refuses any other and names a failed check: the spec's
decisions D4, D7, D9 and D19 (log entries 4, 7, 9 and 21; R53, R54, R107). -/
def Obligations.StepRefusesExactlyIllFormedConfigurations : Prop :=
  ∀ s : State,
    ((∀ k, step s ≠ .refused (.configRefused k)) ↔
      s.config.wf = true ∧ s.config.arch.lawful = true
      ∧ (s.config.featRNGTRAP = true → s.config.haveEL3 = true)
      ∧ ∀ (p : Nibble) (b : Bit), s.config.rndrView p b = 0 ∨ s.config.rndrView p b = 1)
    ∧ ∀ k, step s = .refused (.configRefused k) → s.config.passes k = false

/-- R45 to R52: the values an architecture version does not permit, in every configuration the machine runs
with. The TS clause is the literal reading of decision D5 (log entry 5), which leaves 0b0000 from Armv8.5 on where
the strict one does not; FHM 0b0010 is the reading of decision D6 (log entry 6). -/
def Obligations.VersionsForbidFieldValues : Prop :=
  (∀ c : Config, c.firstFailed = none →
    (c.arch.atLeast8_4 = true → c.pTlb = 0b0010#4)
    ∧ (c.arch.is8_4 = true → c.pTs = 0b0001#4 ∨ c.pTs = 0b0010#4)
    ∧ (c.arch.atLeast8_5 = true → c.pTs = 0b0000#4 ∨ c.pTs = 0b0010#4)
    ∧ (c.arch.atLeast8_4 = true → c.featFP16 = true → c.pFhm = 0b0001#4)
    ∧ c.pFhm ≠ 0b0010#4
    ∧ (c.arch.atLeast8_4 = true → c.featAdvSIMD = true → c.pDp = 0b0001#4)
    ∧ (c.arch.atLeast8_1 = true → c.pRdm = 0b0001#4)
    ∧ (c.arch.atLeast8_1 = true → c.pAtomic = 0b0010#4 ∨ c.pAtomic = 0b0011#4)
    ∧ (c.arch.atLeast8_1 = true → c.pCrc32 = 0b0001#4))
    ∧ (∃ c : Config, c.firstFailed = none ∧ c.arch.atLeast8_5 = true ∧ c.pTs = 0b0000#4)
    ∧ (∃ c : Config, c.firstFailed = none ∧ c.arch.atLeast8_4 = true ∧ c.featFP16 = true
        ∧ c.featAdvSIMD = true ∧ c.arch.is8_4 = true ∧ c.pTs = 0b0001#4)
    ∧ (∃ c : Config, c.firstFailed = none ∧ c.arch.atLeast9_7 = true ∧ c.featAdvSIMD = true
        ∧ c.featSVEF16F32MM = true ∧ c.pFhm = 0b0000#4)
    ∧ ∀ c : Config, c.wfVersionStrict = true →
        c.wfVersion = true ∧ (c.arch.atLeast8_5 = true → c.pTs = 0b0010#4)

/-- R40: SM4 and SM3 hold the same value, and both legal pairs occur. -/
def Obligations.Sm4EqualsSm3 : Prop :=
  (∀ c : Config, c.firstFailed = none →
    (c.pSm4 = 0b0000#4 ∧ c.pSm3 = 0b0000#4) ∨ (c.pSm4 = 0b0001#4 ∧ c.pSm3 = 0b0001#4))
    ∧ (∃ c : Config, c.firstFailed = none ∧ c.pSm4 = 0b0000#4 ∧ c.pSm3 = 0b0000#4)
    ∧ ∃ c : Config, c.firstFailed = none ∧ c.pSm4 = 0b0001#4 ∧ c.pSm3 = 0b0001#4

/-- R43, R44: the nineteen features read off the fields, the three sentences of R43, and the equalities that
follow in a configuration the machine runs with. The definition is the spec's decision D8 (log entry 8). -/
def Obligations.FeaturesAreReadOffTheFields : Prop :=
  (∀ c : Config,
    (c.isFeatureImplemented .rng = true ↔ c.pRndr = 1)
    ∧ (c.isFeatureImplemented .tlbios = true ↔ c.pTlb = 1 ∨ c.pTlb = 2)
    ∧ (c.isFeatureImplemented .tlbirange = true ↔ c.pTlb = 2)
    ∧ (c.isFeatureImplemented .flagM = true ↔ c.pTs = 1 ∨ c.pTs = 2)
    ∧ (c.isFeatureImplemented .flagM2 = true ↔ c.pTs = 2)
    ∧ (c.isFeatureImplemented .fhm = true ↔ c.pFhm = 1)
    ∧ (c.isFeatureImplemented .dotProd = true ↔ c.pDp = 1)
    ∧ (c.isFeatureImplemented .sm4 = true ↔ c.pSm4 = 1)
    ∧ (c.isFeatureImplemented .sm3 = true ↔ c.pSm3 = 1)
    ∧ (c.isFeatureImplemented .sha3 = true ↔ c.pSha3 = 1)
    ∧ (c.isFeatureImplemented .rdm = true ↔ c.pRdm = 1)
    ∧ (c.isFeatureImplemented .lse = true ↔ c.pAtomic = 2 ∨ c.pAtomic = 3)
    ∧ (c.isFeatureImplemented .lse128 = true ↔ c.pAtomic = 3)
    ∧ (c.isFeatureImplemented .crc32 = true ↔ c.pCrc32 = 1)
    ∧ (c.isFeatureImplemented .sha256 = true ↔ c.pSha2 = 1 ∨ c.pSha2 = 2)
    ∧ (c.isFeatureImplemented .sha512 = true ↔ c.pSha2 = 2)
    ∧ (c.isFeatureImplemented .sha1 = true ↔ c.pSha1 = 1)
    ∧ (c.isFeatureImplemented .aes = true ↔ c.pAes = 1 ∨ c.pAes = 2)
    ∧ (c.isFeatureImplemented .pmull = true ↔ c.pAes = 2)
    ∧ (c.pSm4 = 1 → c.isFeatureImplemented .sm4 = true)
    ∧ (c.pSm3 = 1 → c.isFeatureImplemented .sm3 = true)
    ∧ (c.pSha3 = 1 → c.isFeatureImplemented .sha3 = true))
    ∧ ∀ c : Config, c.firstFailed = none →
      c.isFeatureImplemented .sm3 = c.isFeatureImplemented .sm4
      ∧ c.isFeatureImplemented .sha1 = c.isFeatureImplemented .sha256
      ∧ c.isFeatureImplemented .sha512 = c.isFeatureImplemented .sha3

/-- R54: the version tests obey their laws in every configuration the machine runs with, and nothing but
those laws: whatever lawful tests are given, some configuration with them is accepted. The laws are the spec's
decision D7 (log entry 7). -/
def Obligations.VersionTestsObeyExactlyTheirLaws : Prop :=
  ∀ a : ArchTests,
    (∃ c : Config, c.arch = a ∧ c.firstFailed = none) ↔
      (∀ v, a.is v = true → a.atLeast v = true)
      ∧ (a.atLeast .armv9_7 = true → a.atLeast .armv8_5 = true)
      ∧ (a.atLeast .armv8_5 = true → a.atLeast .armv8_4 = true)
      ∧ (a.atLeast .armv8_4 = true → a.atLeast .armv8_1 = true)
      ∧ (a.atLeast .armv8_5 = true → a.is .armv8_4 = false)

/-- R106: when the read completes, the next state is the old one with `X[t]` and the pc written and nothing
else; when it does not, the fault carries the pc. That 31 writes no register (R108), that the pc moves by 4
(R109) and what a fault carries are the spec's decisions D11, D12 and D15 (log entries 11, 12 and 15). -/
def Obligations.CompletedReadWritesDestinationAndPc : Prop :=
  ∀ (t : RegNum) (s : State),
    (ReadCompletes s →
      exec (.mrsIdAa64isar0El1 t) s
        = .next { s with
            x := if h : t.toNat < 31 then s.x.set t.toNat (readValue s.config s.inputs) h else s.x
            pc := s.pc + 4 })
    ∧ (¬ ReadCompletes s → ∃ f, exec (.mrsIdAa64isar0El1 t) s = .fault f ∧ f.pc = s.pc)

/-- R107: the 64 bits a completed read leaves in its destination, and the refusal of `FEAT_RNG_TRAP`
without EL3. `RNDR_VIEW` is the open parameter of decision D9 (log entry 9), the refusal is decision D19 (log
entry 21). -/
def Obligations.ReadReturnsTheRegisterBits : Prop :=
  (∀ (t : RegNum) (i : Fin 31) (s : State), ReadCompletes s → i.val = t.toNat →
    ∃ s', exec (.mrsIdAa64isar0El1 t) s = .next s'
      ∧ (s'.readX i).extractLsb' 0 60 = s.config.idisar0.extractLsb' 0 60
      ∧ (s.config.featRNGTRAP = true →
          (s'.readX i).extractLsb' 60 4 = s.config.rndrView s.config.pRndr s.inputs.scrEl3.trndr)
      ∧ (s.config.featRNGTRAP = false →
          (s'.readX i).extractLsb' 60 4 = s.config.pRndr ∧ s'.readX i = s.config.idisar0)
      ∧ (s.config.firstFailed = none →
          (s'.readX i).extractLsb' 60 4 = 0b0000#4 ∨ (s'.readX i).extractLsb' 60 4 = 0b0001#4))
    ∧ ∀ s : State, s.config.featRNGTRAP = true → s.config.haveEL3 = false →
        ∃ k, step s = .refused (.configRefused k)

/-- The frame of the instruction: everything but the destination and the pc is as before. That the program text is
what an instruction could have changed in place of a memory is the spec's decision D17 (log entry 16). -/
def Obligations.ReadLeavesEverythingElse : Prop :=
  ∀ (t : RegNum) (s s' : State), exec (.mrsIdAa64isar0El1 t) s = .next s' →
    (∀ i : Fin 31, i.val ≠ t.toNat → s'.readX i = s.readX i)
    ∧ s'.inputs = s.inputs ∧ s'.laterInputs = s.laterInputs ∧ s'.config = s.config
    ∧ s'.program = s.program ∧ ∀ a : Nat, programRead s'.program a = programRead s.program a

/-- The read completes exactly in the states R171 names (rows 10, 14 and 15 of R111). That it does not
complete without `FEAT_AA64` is decision D1 (log entry 1). -/
def Obligations.ReadCompletesExactlyWhenNotTrapped : Prop :=
  ∀ (t : RegNum) (s : State), (∃ s', exec (.mrsIdAa64isar0El1 t) s = .next s') ↔ ReadCompletes s

/-- R101: without `FEAT_AA64` every access is Undefined, at every level. That `UnimplementedIDRegister()` is the
same outcome is the spec's decision D1, that the fault carries the pc its decision D15 (log entries 1 and 15). -/
def Obligations.AbsentRegisterIsUndefined : Prop :=
  ∀ (t : RegNum) (s : State), s.config.featAA64 = false →
    exec (.mrsIdAa64isar0El1 t) s = .fault (.undefined s.pc)

/-- R102: an access at EL0 never completes. What a fault carries is decision D15 (log entry 15). -/
def Obligations.ReadAtEL0 : Prop :=
  ∀ (t : RegNum) (s : State), s.config.featAA64 = true → s.inputs.el = .el0 →
    (s.config.featIDST = true → El2TakesEL0 s →
      exec (.mrsIdAa64isar0El1 t) s = .fault (.systemAccessTrap .el2 0x18 s.pc t))
    ∧ (s.config.featIDST = true → ¬ El2TakesEL0 s →
      exec (.mrsIdAa64isar0El1 t) s = .fault (.systemAccessTrap .el1 0x18 s.pc t))
    ∧ (s.config.featIDST = false → exec (.mrsIdAa64isar0El1 t) s = .fault (.undefined s.pc))

/-- R103: an access at EL1, the tests in the source's order. What a fault carries is decision D15 (log entry 15). -/
def Obligations.ReadAtEL1 : Prop :=
  ∀ (t : RegNum) (s : State), s.config.featAA64 = true → s.inputs.el = .el1 →
    (El3Armed s ∧ s.inputs.el3SDDUndefPriority = true →
      exec (.mrsIdAa64isar0El1 t) s = .fault (.undefined s.pc))
    ∧ (¬ (El3Armed s ∧ s.inputs.el3SDDUndefPriority = true) →
      (El2Armed s → exec (.mrsIdAa64isar0El1 t) s = .fault (.systemAccessTrap .el2 0x18 s.pc t))
      ∧ (¬ El2Armed s →
        (El3Armed s →
          (s.inputs.el3SDDUndef = true → exec (.mrsIdAa64isar0El1 t) s = .fault (.undefined s.pc))
          ∧ (s.inputs.el3SDDUndef = false →
            exec (.mrsIdAa64isar0El1 t) s = .fault (.systemAccessTrap .el3 0x18 s.pc t)))
        ∧ (¬ El3Armed s → exec (.mrsIdAa64isar0El1 t) s = .next (completedRead t s))))

/-- R104: an access at EL2, the tests in the source's order. What a fault carries is decision D15 (log entry 15). -/
def Obligations.ReadAtEL2 : Prop :=
  ∀ (t : RegNum) (s : State), s.config.featAA64 = true → s.inputs.el = .el2 →
    (El3Armed s ∧ (s.inputs.el3SDDUndefPriority = true ∨ s.inputs.el3SDDUndef = true) →
      exec (.mrsIdAa64isar0El1 t) s = .fault (.undefined s.pc))
    ∧ (El3Armed s ∧ s.inputs.el3SDDUndefPriority = false ∧ s.inputs.el3SDDUndef = false →
      exec (.mrsIdAa64isar0El1 t) s = .fault (.systemAccessTrap .el3 0x18 s.pc t))
    ∧ (¬ El3Armed s → exec (.mrsIdAa64isar0El1 t) s = .next (completedRead t s))

/-- R105: an access at EL3 completes, whatever the controls and predicates. -/
def Obligations.ReadAtEL3 : Prop :=
  ∀ (t : RegNum) (s : State), s.config.featAA64 = true → s.inputs.el = .el3 →
    exec (.mrsIdAa64isar0El1 t) s = .next (completedRead t s)

/-- R111: exactly one row of the table applies, and its outcome is the pseudocode's and the machine's. Row 1 as
Undefined is decision D1 (log entry 1), what a fault carries decision D15 (log entry 15). -/
def Obligations.OutcomeTableIsThePseudocode : Prop :=
  (∀ (c : Config) (u : Inputs), ∃ r, outcomeTable.filter (fun r => r.applies c u) = [r]
      ∧ r.outcome = accessOutcome c u)
    ∧ ∀ (t : RegNum) (s : State) (r : OutcomeRow), r ∈ outcomeTable →
      r.applies s.config s.inputs = true →
        exec (.mrsIdAa64isar0El1 t) s
          = match r.outcome with
            | .completedRead => .next (completedRead t s)
            | .undefined => .fault (.undefined s.pc)
            | .systemAccessTrap target number => .fault (.systemAccessTrap target number s.pc t)
            | .unimplementedIDRegister => .fault (.undefined s.pc)

/-- R141: the access is Undefined in exactly the six cases of the rule, and names the pc alone. What it names is
the spec's decision D15, row 1 its decision D1 (log entries 15 and 1). -/
def Obligations.UndefinedExactlyInTheSixCases : Prop :=
  ∀ (t : RegNum) (s : State) (pc : Word),
    exec (.mrsIdAa64isar0El1 t) s = .fault (.undefined pc) ↔
      pc = s.pc ∧
        (s.config.featAA64 = false
          ∨ s.config.featAA64 = true ∧
            ((s.inputs.el = .el0 ∧ s.config.featIDST = false)
              ∨ (s.inputs.el = .el1 ∧ El3Armed s ∧ s.inputs.el3SDDUndefPriority = true)
              ∨ (s.inputs.el = .el1 ∧ El3Armed s ∧ s.inputs.el3SDDUndefPriority = false ∧ ¬ El2Armed s
                  ∧ s.inputs.el3SDDUndef = true)
              ∨ (s.inputs.el = .el2 ∧ El3Armed s ∧ s.inputs.el3SDDUndefPriority = true)
              ∨ (s.inputs.el = .el2 ∧ El3Armed s ∧ s.inputs.el3SDDUndefPriority = false
                  ∧ s.inputs.el3SDDUndef = true)))

/-- R142: the access is trapped in exactly the cases of the rule, with the number 0x18, the pc and `t`. That the
pc and `t` go with it is the spec's decision D15 (log entry 15). -/
def Obligations.TrappedExactlyInTheSixRows : Prop :=
  ∀ (t t' : RegNum) (s : State) (target : EL) (number : Nat) (pc : Word),
    exec (.mrsIdAa64isar0El1 t) s = .fault (.systemAccessTrap target number pc t') ↔
      pc = s.pc ∧ t' = t ∧ number = 0x18 ∧ s.config.featAA64 = true ∧
        ((s.inputs.el = .el0 ∧ s.config.featIDST = true ∧ El2TakesEL0 s ∧ target = .el2)
          ∨ (s.inputs.el = .el0 ∧ s.config.featIDST = true ∧ ¬ El2TakesEL0 s ∧ target = .el1)
          ∨ (s.inputs.el = .el1 ∧ ¬ (El3Armed s ∧ s.inputs.el3SDDUndefPriority = true) ∧ El2Armed s
              ∧ target = .el2)
          ∨ (s.inputs.el = .el1 ∧ El3Armed s ∧ s.inputs.el3SDDUndefPriority = false ∧ ¬ El2Armed s
              ∧ s.inputs.el3SDDUndef = false ∧ target = .el3)
          ∨ (s.inputs.el = .el2 ∧ El3Armed s ∧ s.inputs.el3SDDUndefPriority = false
              ∧ s.inputs.el3SDDUndef = false ∧ target = .el3))

/-- A trap goes to a level strictly above the one the machine steps at, carries 0x18, and there is none at
EL3 (R112 items 4 and 5, R150). That the pc goes with it is the spec's decision D15 (R142, log entry 15). -/
def Obligations.TrapsGoStrictlyUpward : Prop :=
  ∀ (s : State) (target : EL) (number : Nat) (pc : Word) (t : RegNum),
    step s = .fault (.systemAccessTrap target number pc t) →
      level s.inputs.el < level target ∧ number = 0x18 ∧ pc = s.pc ∧ s.inputs.el ≠ .el3

/-- The outcome depends on the inputs read on the path the access takes and on no other (R101 to R105, R107). Which
ones a conjunction reads is the spec's decision D25; that equal `SCR_EL3.TRNDR` gives the same top nibble under
`FEAT_RNG_TRAP` rests on `RNDR_VIEW` being a function, decision D9 (R74, R112 item 6); what a fault carries is
decision D15 (log entries 27, 9 and 15). -/
def Obligations.UnconsultedInputsDoNotMatter : Prop :=
  ∀ (t : RegNum) (s : State) (v : Inputs), ConsultedAgree s v →
    SameOutcome (exec (.mrsIdAa64isar0El1 t) s) (exec (.mrsIdAa64isar0El1 t) { s with inputs := v })

/-- EL0 never reads the register: a run that starts at EL0 goes nowhere, and it ends the same way whatever
the register holds, so long as the two features the EL0 branch tests are the same. That the run ends, with no
handler that could emulate the read, is the spec's decision D15 (R147, log entry 15). -/
def Obligations.EL0LearnsNothingOfTheRegister : Prop :=
  ∀ (k : Nat) (s : State) (c : Config), s.inputs.el = .el0 →
    s.config.firstFailed = none → c.firstFailed = none →
    c.featAA64 = s.config.featAA64 → c.featIDST = s.config.featIDST →
      (runFrom k s).last = s
        ∧ runFrom k { s with config := c } = { last := { s with config := c }, stop := (runFrom k s).stop }

/-- R147: a terminal outcome ends the run with the unchanged state, and carries the pc of the `MRS`: the spec's
decision D15 (log entry 15). -/
def Obligations.TerminalOutcomeEndsTheRunUnchanged : Prop :=
  ∀ (s : State) (f : Fault), step s = .fault f →
    f.pc = s.pc ∧ ∀ k : Nat, runFrom (k + 1) s = { last := s, stop := some (.fault f) }

/-- A step is exec of the decoded instruction, after which the next inputs become current; with nothing at
the pc it is refused under a name of its own. The schedule of inputs and that refusal are the model's choices (log
entries 19 and 17). -/
def Obligations.StepRunsTheDecodedInstruction : Prop :=
  ∀ s : State, s.config.firstFailed = none →
    (∀ (item : FetchItem) (i : Instr), programRead s.program s.pc.toNat = some item →
      decodeItem item = .ok i →
        i.wf = true
        ∧ (∀ s1, exec i s = .next s1 → s1.laterInputs = [] → step s = .next s1)
        ∧ (∀ s1 u rest, exec i s = .next s1 → s1.laterInputs = u :: rest →
            step s = .next { s1 with inputs := u, laterInputs := rest })
        ∧ (∀ f, exec i s = .fault f → step s = .fault f))
    ∧ (programRead s.program s.pc.toNat = none → step s = .refused (.noInstructionAt s.pc))

/-- R121: none of the named instructions decodes, and the machine refuses each by its name. That one can stand in a
program text by its name, having no encoding, is the model's choice (log entry 18). -/
def Obligations.NamedInstructionsAreRefused : Prop :=
  ∀ n : Named,
    decodeItem (.named n) = .error (.namedNotSpecified n)
    ∧ (Reject.namedNotSpecified n).message = "named by ID_AA64ISAR0_EL1, not specified in source"
    ∧ ∀ s : State, s.config.firstFailed = none → programRead s.program s.pc.toNat = some (.named n) →
        step s = .refused (.namedNotSpecified n s.pc)

/-- R92: exactly the words 0xD5180600 + t are refused as the write form. The word is the spec's decision D13, the
refusal its decision D14 (log entries 13 and 14). -/
def Obligations.WriteFormIsRefusedByName : Prop :=
  (∀ w : InstrWord, decodeWord w = .error .writeFormToReadOnly ↔ ∃ t : RegNum, w.toNat = 0xD5180600 + t.toNat)
    ∧ Reject.writeFormToReadOnly.message = "write form to a read-only ID register: not in source"
    ∧ ∀ (s : State) (t : RegNum), s.config.firstFailed = none →
        programRead s.program s.pc.toNat = some (.word (BitVec.ofNat 32 (0xD5180600 + t.toNat))) →
          step s = .refused (.writeFormToReadOnlyRegister s.pc)

/-- R93: every word but the thirty-two and the write form is answered "not in this spec" and refused: the spec's
decision D14 (log entry 14). Which words those are is R88 and R92, the spec's decision D13 (log entry 13). -/
def Obligations.EveryOtherWordIsRefused : Prop :=
  ∀ w : InstrWord, (∀ t : RegNum, w.toNat ≠ 0xD5380600 + t.toNat) →
    (∀ t : RegNum, w.toNat ≠ 0xD5180600 + t.toNat) →
      decodeWord w = .error .notInThisSpec ∧ Reject.notInThisSpec.message = "not in this spec"
      ∧ ∀ s : State, s.config.firstFailed = none → programRead s.program s.pc.toNat = some (.word w) →
          step s = .refused (.notInThisSpec s.pc)

/-- Decode and encode agree, in both directions: a word decodes to an instruction exactly when it is that
instruction's word. The word is the spec's decision D13, the table's numbering beyond 32 bits the model's choice (log
entries 13 and 29). -/
def Obligations.DecodeAndEncodeAgree : Prop :=
  ∀ (w : InstrWord) (i : Instr),
    (decodeWord w = .ok i ↔ w = encode i)
    ∧ (decodeTableWord 32 w.toNat = some i ↔ w = encode i)

/-- R86, R88: the layout of the word, its match and mask, and the selector it carries. The five selector values
are the source's; the word they stand in is the spec's decision D13 (log entry 13). -/
def Obligations.WordLayoutOfTheRead : Prop :=
  (∀ t : RegNum,
    (encode (.mrsIdAa64isar0El1 t)).extractLsb' 22 10 = 0b1101010100#10
    ∧ (encode (.mrsIdAa64isar0El1 t)).extractLsb' 21 1 = 1#1
    ∧ (encode (.mrsIdAa64isar0El1 t)).extractLsb' 20 1 = 1#1
    ∧ (encode (.mrsIdAa64isar0El1 t)).extractLsb' 19 1 = 1#1
    ∧ (encode (.mrsIdAa64isar0El1 t)).extractLsb' 16 3 = 0b000#3
    ∧ (encode (.mrsIdAa64isar0El1 t)).extractLsb' 12 4 = 0b0000#4
    ∧ (encode (.mrsIdAa64isar0El1 t)).extractLsb' 8 4 = 0b0110#4
    ∧ (encode (.mrsIdAa64isar0El1 t)).extractLsb' 5 3 = 0b000#3
    ∧ (encode (.mrsIdAa64isar0El1 t)).extractLsb' 0 5 = t
    ∧ (encode (.mrsIdAa64isar0El1 t)).toNat = 0xD5380600 + t.toNat
    ∧ (Instr.mrsIdAa64isar0El1 t).term
      = { direction := .read, selector := ⟨0b11#2, 0b000#3, 0b0000#4, 0b0110#4, 0b000#3⟩, t := t })
    ∧ ∀ (w : InstrWord) (t : RegNum), decodeWord w = .ok (.mrsIdAa64isar0El1 t) ↔
        w &&& 0xFFFFFFE0#32 = 0xD5380600#32 ∧ t = w.extractLsb' 0 5

/-- A few words, written out from R88 (log entry 13), decode to the instruction they stand for. -/
def Obligations.WrittenOutWordsDecode : Prop :=
  decodeWord 0b11010101001110000000011000000101#32 = .ok (.mrsIdAa64isar0El1 5)
    ∧ decodeWord 0b11010101001110000000011000011110#32 = .ok (.mrsIdAa64isar0El1 30)
    ∧ decodeWord 0b11010101001110000000011000011111#32 = .ok (.mrsIdAa64isar0El1 31)

/-- The register after reset holds its one value (R64); the machine's invariant holds at reset. The values of
everything else at reset are the model's own (log entries 23, 24, 25 and 26). -/
def Obligations.ResetKeepsTheRegisterAndTheInvariant : Prop :=
  (∀ c : Config, (State.resetOf c).config.idisar0 = c.idisar0)
    ∧ (∀ c : Config, c.firstFailed = none → MachineInv (State.resetOf c))
    ∧ MachineInv State.reset
    ∧ (∀ i : Fin 31, State.reset.readX i = 0) ∧ State.reset.pc = 0 ∧ State.reset.inputs.el = .el3

/-- R23, R80: nothing a run does changes the register or the program text. That the register is a constant of the
configuration is the spec's decision D2, the program text its decision D17 (log entries 2 and 16). -/
def Obligations.RegisterHasNoWriter : Prop :=
  ∀ (k : Nat) (s : State),
    (runFrom k s).last.config.idisar0 = s.config.idisar0 ∧ (runFrom k s).last.config = s.config
      ∧ (runFrom k s).last.program = s.program

/-- The invariant every step keeps: accepted configuration, canonical program text, both as at the start,
and every general register holds what it held at the start or a value a read can return. It holds at the start
of a run from any state that meets the machine's invariant. The constant configuration is decision D2, the range
of the top nibble decision D9, the program text and its canonical form decision D17 and the model's own (log
entries 2, 9 and 16). -/
def Obligations.EveryStepKeepsTheRunInvariant : Prop :=
  (∀ start s s' : State, RunInv start s → step s = .next s' → RunInv start s')
    ∧ ∀ start : State, MachineInv start → RunInv start start

/-- At any point of any run a general register holds its starting value or a value a read can return. That the top
nibble of such a value is 0b0000 or 0b0001 is the spec's decision D9, that the register is constant its decision D2
(log entries 9 and 2). -/
def Obligations.RegistersHoldOnlyReadValues : Prop :=
  ∀ (k : Nat) (s : State) (i : Fin 31),
    (runFrom k s).last.readX i = s.readX i
      ∨ ReturnedByARead s.config ((runFrom k s).last.readX i)

/-- Each step of a run moves the pc on by 4, modulo 2^64: the spec's decision D12 (log entry 12). -/
def Obligations.PcMovesFourPerStep : Prop :=
  ∀ (k : Nat) (s s' : State), Reaches k s s' → s'.pc = s.pc + BitVec.ofNat 64 (4 * k)

/-- Two completed reads of one run return the same bits [59:0], and the same 64 bits without
`FEAT_RNG_TRAP` or under the same `SCR_EL3.TRNDR` (R112 item 6, R74). That the register is constant is the
spec's decision D2, that the view is a function its decision D9 (log entries 2 and 9). -/
def Obligations.ReadsOfOneRunAgree : Prop :=
  ∀ (k : Nat) (s s' s1 s2 : State) (t t' : RegNum) (i j : Fin 31), Reaches k s s' →
    exec (.mrsIdAa64isar0El1 t) s = .next s1 → exec (.mrsIdAa64isar0El1 t') s' = .next s2 →
    i.val = t.toNat → j.val = t'.toNat →
      (s2.readX j).extractLsb' 0 60 = (s1.readX i).extractLsb' 0 60
      ∧ (s.config.featRNGTRAP = false → s2.readX j = s1.readX i)
      ∧ (s'.inputs.scrEl3.trndr = s.inputs.scrEl3.trndr → s2.readX j = s1.readX i)

/-- What a read returns is bounded, field by field and as a number (R112 items 7 and 8). The zero nibbles are log
entry 3, the range of `RNDR_VIEW` is log entry 9. -/
def Obligations.ReadValueIsBounded : Prop :=
  ∀ (t : RegNum) (i : Fin 31) (s s' : State), s.config.firstFailed = none →
    exec (.mrsIdAa64isar0El1 t) s = .next s' → i.val = t.toNat →
      (s'.readX i).extractLsb' 24 4 = 0b0000#4 ∧ (s'.readX i).extractLsb' 0 4 = 0b0000#4
      ∧ (∀ f : Field, (fieldOf (s'.readX i) f).toNat ≤ 3)
      ∧ (s'.readX i).toNat ≤ 0x1221111110312120

/-- R120: what a value reports, row by row. The slices are those of R20 under decision D10 (log entry 10). -/
def Obligations.ReportsIsTheTable : Prop :=
  ∀ v : Word,
    (∀ n ∈ [Named.rndr, .rndrrs], reports v n = true ↔ v.extractLsb' 60 4 = 1)
    ∧ (reports v .outerShareableTlbMaintenance = true ↔ v.extractLsb' 56 4 = 1 ∨ v.extractLsb' 56 4 = 2)
    ∧ (reports v .tlbRangeMaintenance = true ↔ v.extractLsb' 56 4 = 2)
    ∧ (∀ n ∈ [Named.cfinv, .rmif, .setf16, .setf8],
        reports v n = true ↔ v.extractLsb' 52 4 = 1 ∨ v.extractLsb' 52 4 = 2)
    ∧ (∀ n ∈ [Named.axflag, .xaflag], reports v n = true ↔ v.extractLsb' 52 4 = 2)
    ∧ (∀ n ∈ [Named.fmlal, .fmlsl], reports v n = true ↔ v.extractLsb' 48 4 = 1)
    ∧ (∀ n ∈ [Named.udot, .sdot], reports v n = true ↔ v.extractLsb' 44 4 = 1)
    ∧ (∀ n ∈ [Named.sm4e, .sm4ekey], reports v n = true ↔ v.extractLsb' 40 4 = 1)
    ∧ (∀ n ∈ [Named.sm3ss1, .sm3tt1a, .sm3tt1b, .sm3tt2a, .sm3tt2b, .sm3partw1, .sm3partw2],
        reports v n = true ↔ v.extractLsb' 36 4 = 1)
    ∧ (∀ n ∈ [Named.eor3, .rax1, .xar, .bcax], reports v n = true ↔ v.extractLsb' 32 4 = 1)
    ∧ (∀ n ∈ [Named.sqrdmlah, .sqrdmlsh], reports v n = true ↔ v.extractLsb' 28 4 = 1)
    ∧ (∀ n ∈ [Named.ldadd, .ldclr, .ldeor, .ldset, .ldsmax, .ldsmin, .ldumax, .ldumin, .cas, .casp, .swp],
        reports v n = true ↔ v.extractLsb' 20 4 = 2 ∨ v.extractLsb' 20 4 = 3)
    ∧ (∀ n ∈ [Named.ldclrp, .ldsetp, .swpp], reports v n = true ↔ v.extractLsb' 20 4 = 3)
    ∧ (∀ n ∈ [Named.crc32b, .crc32h, .crc32w, .crc32x, .crc32cb, .crc32ch, .crc32cw, .crc32cx],
        reports v n = true ↔ v.extractLsb' 16 4 = 1)
    ∧ (∀ n ∈ [Named.sha256h, .sha256h2, .sha256su0, .sha256su1],
        reports v n = true ↔ v.extractLsb' 12 4 = 1 ∨ v.extractLsb' 12 4 = 2)
    ∧ (∀ n ∈ [Named.sha512h, .sha512h2, .sha512su0, .sha512su1],
        reports v n = true ↔ v.extractLsb' 12 4 = 2)
    ∧ (∀ n ∈ [Named.sha1c, .sha1p, .sha1m, .sha1h, .sha1su0, .sha1su1],
        reports v n = true ↔ v.extractLsb' 8 4 = 1)
    ∧ (∀ n ∈ [Named.aese, .aesd, .aesmc, .aesimc],
        reports v n = true ↔ v.extractLsb' 4 4 = 1 ∨ v.extractLsb' 4 4 = 2)
    ∧ (∀ n ∈ [Named.pmull, .pmull2], reports v n = true ↔ v.extractLsb' 4 4 = 2)

/-- R122: what a read value reports is what the register reports, but for the two random number registers;
and the equivalences of a well-formed configuration. The view as a function into {0b0000, 0b0001} is the spec's
decision D9 (log entry 9). -/
def Obligations.ReadValueReportsTheRegister : Prop :=
  (∀ (t : RegNum) (i : Fin 31) (s s' : State), s.config.firstFailed = none →
    exec (.mrsIdAa64isar0El1 t) s = .next s' → i.val = t.toNat →
      (∀ n : Named, n ≠ .rndr → n ≠ .rndrrs → reports (s'.readX i) n = reports s.config.idisar0 n)
      ∧ (∀ n ∈ [Named.rndr, .rndrrs], reports (s'.readX i) n = reports s.config.idisar0 n ↔
          s.config.featRNGTRAP = false
            ∨ s.config.rndrView s.config.pRndr s.inputs.scrEl3.trndr = s.config.pRndr))
    ∧ ∀ c : Config, c.wf = true →
      reports c.idisar0 .sm4e = reports c.idisar0 .sm3ss1
      ∧ reports c.idisar0 .sha1c = reports c.idisar0 .sha256h
      ∧ reports c.idisar0 .sha512h = reports c.idisar0 .eor3
      ∧ (reports c.idisar0 .sha512h = true → reports c.idisar0 .sha1c = true)

/-- A program whose reads all execute at EL3 runs on: no step of it is refused, UNDEFINED or trapped
(R105, R112 item 2, R171). That the next instruction is at the pc plus 4 modulo 2^64 is the spec's decision D12
(R109, log entry 12); the schedule of later inputs is the model's choice (log entry 19). -/
def Obligations.ReadsAtEL3RunOn : Prop :=
  ∀ (k : Nat) (s : State), s.config.firstFailed = none → s.config.featAA64 = true →
    s.inputs.el = .el3 → (∀ u ∈ s.laterInputs, u.el = .el3) →
    (∀ j : Nat, j < k → ∃ w i,
      programRead s.program (s.pc + BitVec.ofNat 64 (4 * j)).toNat = some (.word w)
        ∧ decodeWord w = .ok i) →
      safeRun k s = true

/-- Placing a table row's word makes the very next step run it, in every accepted configuration; the rest of
the program text and the rest of the state are as before (the model's own load, log entry 26; the
word is log entry 13). -/
def Obligations.PlacedWordRunsNext : Prop :=
  ∀ (s : State) (i : Instr), s.config.firstFailed = none → s.laterInputs = [] →
    step (s.withFetchWord 32 (encode i).toNat) = exec i (s.withFetchWord 32 (encode i).toNat)
      ∧ (∀ a : Nat, a ≠ s.pc.toNat →
          programRead (s.withFetchWord 32 (encode i).toNat).program a = programRead s.program a)
      ∧ (s.program.wf = true → (s.withFetchWord 32 (encode i).toNat).program.wf = true)
      ∧ { s.withFetchWord 32 (encode i).toNat with program := s.program } = s

/-- R41: the five sentences that tie SHA1, SHA2 and SHA3, as formulas, in every configuration the machine runs
with. -/
def Obligations.ShaSentencesHold : Prop :=
  ∀ c : Config, c.firstFailed = none →
    (c.pSha1 = 0b0000#4 → c.pSha3 = 0b0000#4)
    ∧ (c.pSha3 = 0b0001#4 → c.pSha2 = 0b0010#4)
    ∧ (c.pSha1 = 0b0000#4 → c.pSha2 = 0b0000#4)
    ∧ (c.pSha2 = 0b0010#4 → c.pSha3 = 0b0001#4)
    ∧ (c.pSha2 = 0b0000#4 → c.pSha1 = 0b0000#4)
end

