-- ==== Sys2Proof/Laws/ConfigCheck.lean ====
section
/-! SUPPORT. What an accepted configuration is, and the slices of the register's value. -/

namespace Sys2Proof

@[simp] theorem fieldOf_idisar0 (c : Config) (f : Field) : fieldOf c.idisar0 f = c.param f := by
  apply BitVec.eq_of_getLsbD_eq
  intro i hi
  cases f <;> simp only [fieldOf, Field.lo, Config.idisar0, Config.param, BitVec.getLsbD_extractLsb',
    BitVec.getLsbD_append] <;> interval_cases i <;> simp

@[simp] theorem implies_eq_true (p q : Bool) : implies p q = true ↔ (p = true → q = true) := by
  cases p <;> cases q <;> decide

/-- A configuration is accepted exactly when it passes every check. -/
theorem firstFailed_eq_none {c : Config} : c.firstFailed = none ↔ ∀ k, c.passes k = true := by
  unfold Config.firstFailed
  simp only [List.find?_eq_none, Bool.not_eq_true', Bool.not_eq_false]
  exact ⟨fun h k => h k (by cases k <;> decide), fun h k _ => h k⟩

/-- The check a refusal names is one the configuration fails. -/
theorem firstFailed_fails {c : Config} {k : ConfigCheck} (h : c.firstFailed = some k) :
    c.passes k = false := by
  have := List.find?_some h
  simpa using this

/-- An accepted configuration holds a defined value in every field. -/
theorem accepted_defined {c : Config} (h : c.firstFailed = none) (f : Field) :
    c.param f ∈ f.defined := by
  have := firstFailed_eq_none.1 h .wfValues
  simp only [Config.passes, wfValues, List.all_eq_true, fieldOf_idisar0] at this
  simpa using this f (by cases f <;> decide)

/-- In an accepted configuration `RNDR_VIEW` gives defined values of RNDR only. -/
theorem accepted_rndrView {c : Config} (h : c.firstFailed = none) (p : Nibble) (b : Bit) :
    c.rndrView p b ∈ Field.rndr.defined := by
  have := firstFailed_eq_none.1 h .rndrViewRange
  simp only [Config.passes, List.all_eq_true] at this
  simpa using this (c.rndrView p b) (Vector.mem_toList_iff.2 (Vector.getElem_mem _))

/-- An accepted configuration's SM4 equals SM3. -/
theorem accepted_sm {c : Config} (h : c.firstFailed = none) : c.pSm4 = c.pSm3 := by
  have := firstFailed_eq_none.1 h .wfCross
  simp [Config.passes, wfCross, Config.param] at this
  exact this.1

/-- An accepted configuration's SHA triple is one of the three legal ones. -/
theorem accepted_sha {c : Config} (h : c.firstFailed = none) :
    (c.pSha1, c.pSha2, c.pSha3) ∈ shaTriples := by
  have := firstFailed_eq_none.1 h .wfCross
  simp only [Config.passes, wfCross, fieldOf_idisar0, Config.param, Bool.and_eq_true,
    List.contains_iff_mem] at this
  exact this.2

end Sys2Proof
end

