-- ==== Sys2Proof/Laws/State.lean ====
section
/-! SUPPORT. One lemma per field per update of State, so that no later proof unfolds a record update. -/

namespace Sys2Proof
namespace Machine

@[simp] theorem writeX_pc (s : State) (t : RegNum) (v : Word) : (s.writeX t v).pc = s.pc := by
  unfold State.writeX; split <;> rfl
@[simp] theorem writeX_inputs (s : State) (t : RegNum) (v : Word) : (s.writeX t v).inputs = s.inputs := by
  unfold State.writeX; split <;> rfl
@[simp] theorem writeX_laterInputs (s : State) (t : RegNum) (v : Word) :
    (s.writeX t v).laterInputs = s.laterInputs := by
  unfold State.writeX; split <;> rfl
@[simp] theorem writeX_config (s : State) (t : RegNum) (v : Word) : (s.writeX t v).config = s.config := by
  unfold State.writeX; split <;> rfl
@[simp] theorem writeX_program (s : State) (t : RegNum) (v : Word) :
    (s.writeX t v).program = s.program := by
  unfold State.writeX; split <;> rfl

/-- A register write, seen register by register: only `X[t]` takes the value, and 31 names none. -/
@[simp] theorem readX_writeX (s : State) (t : RegNum) (v : Word) (i : Fin 31) :
    (s.writeX t v).readX i = if i.val = t.toNat then v else s.readX i := by
  unfold State.writeX State.readX
  split
  · by_cases hi : i.val = t.toNat
    · simp [hi]
    · simp [hi, Vector.getElem_set_ne, Ne.symm hi]
  · have : i.val ≠ t.toNat := by omega
    simp [this]

@[simp] theorem writeX_31 (s : State) (v : Word) : s.writeX 31#5 v = s := by
  unfold State.writeX; rw [dif_neg (by decide)]

@[simp] theorem advancePc_pc (s : State) : s.advancePc.pc = s.pc + 4 := rfl
@[simp] theorem advancePc_x (s : State) : s.advancePc.x = s.x := rfl
@[simp] theorem advancePc_readX (s : State) (i : Fin 31) : s.advancePc.readX i = s.readX i := rfl
@[simp] theorem advancePc_inputs (s : State) : s.advancePc.inputs = s.inputs := rfl
@[simp] theorem advancePc_laterInputs (s : State) : s.advancePc.laterInputs = s.laterInputs := rfl
@[simp] theorem advancePc_config (s : State) : s.advancePc.config = s.config := rfl
@[simp] theorem advancePc_program (s : State) : s.advancePc.program = s.program := rfl

@[simp] theorem takeNextInputs_x (s : State) : s.takeNextInputs.x = s.x := by
  unfold State.takeNextInputs; split <;> rfl
@[simp] theorem takeNextInputs_readX (s : State) (i : Fin 31) :
    s.takeNextInputs.readX i = s.readX i := by
  unfold State.takeNextInputs; split <;> rfl
@[simp] theorem takeNextInputs_pc (s : State) : s.takeNextInputs.pc = s.pc := by
  unfold State.takeNextInputs; split <;> rfl
@[simp] theorem takeNextInputs_config (s : State) : s.takeNextInputs.config = s.config := by
  unfold State.takeNextInputs; split <;> rfl
@[simp] theorem takeNextInputs_program (s : State) : s.takeNextInputs.program = s.program := by
  unfold State.takeNextInputs; split <;> rfl
theorem takeNextInputs_of_nil {s : State} (h : s.laterInputs = []) : s.takeNextInputs = s := by
  unfold State.takeNextInputs; rw [h]
theorem takeNextInputs_of_cons {s : State} {u : Inputs} {rest : List Inputs}
    (h : s.laterInputs = u :: rest) :
    s.takeNextInputs = { s with inputs := u, laterInputs := rest } := by
  unfold State.takeNextInputs; rw [h]

@[simp] theorem withFetchWord_x (s : State) (n w : Nat) : (s.withFetchWord n w).x = s.x := rfl
@[simp] theorem withFetchWord_pc (s : State) (n w : Nat) : (s.withFetchWord n w).pc = s.pc := rfl
@[simp] theorem withFetchWord_inputs (s : State) (n w : Nat) :
    (s.withFetchWord n w).inputs = s.inputs := rfl
@[simp] theorem withFetchWord_laterInputs (s : State) (n w : Nat) :
    (s.withFetchWord n w).laterInputs = s.laterInputs := rfl
@[simp] theorem withFetchWord_config (s : State) (n w : Nat) :
    (s.withFetchWord n w).config = s.config := rfl
@[simp] theorem withFetchWord_program (s : State) (n w : Nat) :
    (s.withFetchWord n w).program
      = programWrite s.program s.pc.toNat (.word (BitVec.ofNat 32 (w % 2 ^ n))) := rfl

@[simp] theorem resetOf_config (c : Config) : (State.resetOf c).config = c := rfl
@[simp] theorem resetOf_program (c : Config) : (State.resetOf c).program = [] := rfl
@[simp] theorem resetOf_pc (c : Config) : (State.resetOf c).pc = 0 := rfl
@[simp] theorem resetOf_inputs (c : Config) : (State.resetOf c).inputs = resetInputs c := rfl
@[simp] theorem resetOf_laterInputs (c : Config) : (State.resetOf c).laterInputs = [] := rfl
@[simp] theorem resetOf_readX (c : Config) (i : Fin 31) : (State.resetOf c).readX i = 0 := by
  simp [State.resetOf, State.readX]

end Machine
end Sys2Proof
end

