-- ==== Sys2Proof/Laws/Access.lean ====
section
/-! SUPPORT. Everything the meaning of the one instruction can do, said once: when it answers a next state and
which, and which faults it raises. -/

namespace Sys2Proof
namespace Machine

@[simp] theorem isFeatureImplemented_aa64 (c : Config) : c.isFeatureImplemented .aa64 = c.featAA64 := by
  simp [Config.isFeatureImplemented, Feature.identifiedBy, Config.featureParam]
@[simp] theorem isFeatureImplemented_idst (c : Config) : c.isFeatureImplemented .idst = c.featIDST := by
  simp [Config.isFeatureImplemented, Feature.identifiedBy, Config.featureParam]
@[simp] theorem isFeatureImplemented_idte3 (c : Config) : c.isFeatureImplemented .idte3 = c.featIDTE3 := by
  simp [Config.isFeatureImplemented, Feature.identifiedBy, Config.featureParam]
@[simp] theorem isFeatureImplemented_rngTrap (c : Config) : c.isFeatureImplemented .rngTrap = c.featRNGTRAP := by
  simp [Config.isFeatureImplemented, Feature.identifiedBy, Config.featureParam]
@[simp] theorem isFeatureImplemented_fp16 (c : Config) : c.isFeatureImplemented .fp16 = c.featFP16 := by
  simp [Config.isFeatureImplemented, Feature.identifiedBy, Config.featureParam]
@[simp] theorem isFeatureImplemented_advSimd (c : Config) : c.isFeatureImplemented .advSimd = c.featAdvSIMD := by
  simp [Config.isFeatureImplemented, Feature.identifiedBy, Config.featureParam]

/-- As truth values, `T3_PRIO` is `T3` and `EL3SDDUndefPriority()` (R100). -/
theorem el3IdTrapPriority_eq (c : Config) (u : Inputs) :
    el3IdTrapPriority c u = (el3IdTrap c u && u.el3SDDUndefPriority) := by
  unfold el3IdTrapPriority el3IdTrap
  cases c.haveEL3 <;> cases u.el3SDDUndefPriority <;> simp

/-- The access pseudocode as a function of the truth values it tests (the columns of R111). -/
def accessByTests (el : EL) (aa64 idst e2t t3 prio e2i sdd : Bool) : AccessOutcome :=
  if !aa64 then .unimplementedIDRegister
  else
    match el with
    | .el0 =>
      if idst then if e2t then .systemAccessTrap .el2 trapNumber else .systemAccessTrap .el1 trapNumber
      else .undefined
    | .el1 =>
      if t3 && prio then .undefined
      else if e2i then .systemAccessTrap .el2 trapNumber
      else if t3 then if sdd then .undefined else .systemAccessTrap .el3 trapNumber
      else .completedRead
    | .el2 =>
      if t3 && prio then .undefined
      else if t3 then if sdd then .undefined else .systemAccessTrap .el3 trapNumber
      else .completedRead
    | .el3 => .completedRead

/-- The outcome is a function of the columns of R111: rewrite with this, then split on those Booleans. -/
theorem accessOutcome_eq (c : Config) (u : Inputs) :
    accessOutcome c u
      = accessByTests u.el c.featAA64 c.featIDST (el2TgeTrap u) (el3IdTrap c u) u.el3SDDUndefPriority
          (el2IdTrap u) u.el3SDDUndef := by
  simp only [accessOutcome, accessByTests, el3IdTrapPriority_eq]
  rfl

/-- The instruction answers a next state exactly when the access is a completed read, and then that one. -/
theorem exec_next {t : RegNum} {s s' : State} :
    exec (.mrsIdAa64isar0El1 t) s = .next s' ↔
      accessOutcome s.config s.inputs = .completedRead ∧ s' = completedRead t s := by
  simp only [exec, execMrsIdAa64isar0El1]
  cases h : accessOutcome s.config s.inputs <;>
    simp [raiseUndefined, raiseSystemAccessTrap, raiseUnimplementedIDRegister, eq_comm]

/-- The instruction never refuses. -/
theorem exec_not_refused (i : Instr) (s : State) (r : Refusal) : exec i s ≠ .refused r := by
  cases i
  simp only [exec, execMrsIdAa64isar0El1]
  cases h : accessOutcome s.config s.inputs <;>
    simp [raiseUndefined, raiseSystemAccessTrap, raiseUnimplementedIDRegister]

/-- Its faults: `Undefined` with the pc, or a trap with the pc and `t`. -/
theorem exec_fault {t : RegNum} {s : State} {f : Fault} :
    exec (.mrsIdAa64isar0El1 t) s = .fault f ↔
      ((accessOutcome s.config s.inputs = .undefined
          ∨ accessOutcome s.config s.inputs = .unimplementedIDRegister) ∧ f = .undefined s.pc)
        ∨ ∃ target number, accessOutcome s.config s.inputs = .systemAccessTrap target number
            ∧ f = .systemAccessTrap target number s.pc t := by
  simp only [exec, execMrsIdAa64isar0El1]
  cases h : accessOutcome s.config s.inputs <;>
    simp [raiseUndefined, raiseSystemAccessTrap, raiseUnimplementedIDRegister, eq_comm]

/-- A fault names the pc of the instruction that raised it. -/
theorem exec_fault_pc {i : Instr} {s : State} {f : Fault} (h : exec i s = .fault f) :
    (∃ t, f = .systemAccessTrap .el1 trapNumber s.pc t ∨ f = .systemAccessTrap .el2 trapNumber s.pc t
      ∨ f = .systemAccessTrap .el3 trapNumber s.pc t) ∨ f = .undefined s.pc := by
  cases i with
  | mrsIdAa64isar0El1 t =>
    rcases exec_fault.1 h with ⟨_, rfl⟩ | ⟨target, number, ho, rfl⟩
    · exact Or.inr rfl
    · refine Or.inl ⟨t, ?_⟩
      unfold accessOutcome at ho
      repeat' split at ho
      all_goals simp_all

@[simp] theorem completedRead_pc (t : RegNum) (s : State) : (completedRead t s).pc = s.pc + 4 := by
  simp [completedRead]
@[simp] theorem completedRead_readX (t : RegNum) (s : State) (i : Fin 31) :
    (completedRead t s).readX i = if i.val = t.toNat then readValue s.config s.inputs else s.readX i := by
  simp [completedRead]
@[simp] theorem completedRead_inputs (t : RegNum) (s : State) : (completedRead t s).inputs = s.inputs := by
  simp [completedRead]
@[simp] theorem completedRead_laterInputs (t : RegNum) (s : State) :
    (completedRead t s).laterInputs = s.laterInputs := by
  simp [completedRead]
@[simp] theorem completedRead_config (t : RegNum) (s : State) : (completedRead t s).config = s.config := by
  simp [completedRead]
@[simp] theorem completedRead_program (t : RegNum) (s : State) :
    (completedRead t s).program = s.program := by
  simp [completedRead]

/-- A read value, bit by bit (R107). -/
theorem getLsbD_readValue (c : Config) (u : Inputs) (i : Nat) :
    (readValue c u).getLsbD i
      = if i < 60 then c.idisar0.getLsbD i else (rndrAsRead c u).getLsbD (i - 60) := by
  have h := BitVec.getLsbD_append (x := rndrAsRead c u) (y := c.idisar0.extractLsb' 0 60) (i := i)
  refine h.trans ?_
  by_cases hi : i < 60 <;> simp [hi]

/-- The low 60 bits of a read value are the register's (R107). -/
@[simp] theorem readValue_low (c : Config) (u : Inputs) :
    (readValue c u).extractLsb' 0 60 = c.idisar0.extractLsb' 0 60 := by
  apply BitVec.eq_of_getLsbD_eq
  intro i hi
  simp [getLsbD_readValue, hi]

/-- The top nibble of a read value is the RNDR nibble as read (R107). -/
@[simp] theorem readValue_high (c : Config) (u : Inputs) :
    (readValue c u).extractLsb' 60 4 = rndrAsRead c u := by
  apply BitVec.eq_of_getLsbD_eq
  intro i hi
  simp [getLsbD_readValue, hi]

/-- The fields of a read value: the register's, but for the RNDR nibble (R107, R122). -/
theorem fieldOf_readValue (c : Config) (u : Inputs) (f : Field) :
    fieldOf (readValue c u) f = if f = .rndr then rndrAsRead c u else c.param f := by
  by_cases hf : f = .rndr
  · subst hf; exact readValue_high c u
  · rw [if_neg hf, ← fieldOf_idisar0]
    apply BitVec.eq_of_getLsbD_eq
    intro i hi
    have hlt : f.lo + i < 60 := by cases f <;> simp_all [Field.lo] <;> omega
    simp [fieldOf, getLsbD_readValue, hi, hlt]

/-- In an accepted configuration the RNDR nibble as read is a defined value (R107). -/
theorem accepted_rndrAsRead {c : Config} (h : c.firstFailed = none) (u : Inputs) :
    rndrAsRead c u ∈ Field.rndr.defined := by
  unfold rndrAsRead
  split
  · exact accepted_rndrView h _ _
  · exact accepted_defined h .rndr

end Machine
end Sys2Proof
end

