-- ==== Sys2Proof/Laws/Decode.lean ====
section
/-! SUPPORT. What the decoder and the encoder do, one lemma each; and that every instruction is well formed. -/

namespace Sys2Proof

theorem instr_wf (i : Instr) : i.wf = true := by cases i; rfl

theorem decodeTerm_ok {m : SysRegTerm} {i : Instr} :
    decodeTerm m = .ok i ↔
      m.direction = .read ∧ m.selector = idAa64isar0Point ∧ i = .mrsIdAa64isar0El1 m.t := by
  unfold decodeTerm
  split
  · cases m.direction <;> simp_all [eq_comm]
  · simp_all

/-- A term is accepted exactly when it is well formed. -/
theorem decodeTerm_wf (m : SysRegTerm) : (∃ i, decodeTerm m = .ok i) ↔ m.wf = true := by
  obtain ⟨d, s, t⟩ := m
  obtain ⟨a, b, e, f, g⟩ := s
  simp only [decodeTerm_ok, SysRegTerm.wf, Bool.and_eq_true, beq_iff_eq, idAa64isar0Point,
    Selector.mk.injEq]
  constructor
  · rintro ⟨_, h1, ⟨h2, h3, h4, h5, h6⟩, _⟩; exact ⟨⟨⟨⟨⟨h1, h2⟩, h3⟩, h4⟩, h5⟩, h6⟩
  · rintro ⟨⟨⟨⟨⟨h1, h2⟩, h3⟩, h4⟩, h5⟩, h6⟩; exact ⟨_, h1, ⟨h2, h3, h4, h5, h6⟩, rfl⟩

theorem decodeTerm_writeForm {m : SysRegTerm} :
    decodeTerm m = .error .writeFormToReadOnly ↔
      m.direction = .write ∧ m.selector = idAa64isar0Point := by
  unfold decodeTerm
  split
  · cases m.direction <;> simp_all
  · simp_all

/-- The decoder rejects a word under one of two names only. -/
theorem decodeWord_error {w : InstrWord} {r : Reject} (h : decodeWord w = .error r) :
    r = .writeFormToReadOnly ∨ r = .notInThisSpec := by
  unfold decodeWord decodeTerm at h
  split at h
  · split at h
    · cases hd : (termOfWord w).direction <;> simp_all
    · simp_all
  · simp_all

@[simp] theorem encode_mrs (t : RegNum) :
    encode (.mrsIdAa64isar0El1 t) = 0b110101010011100000000110000#27 ++ t := by
  revert t; decide

@[simp] theorem decodeItem_word (w : InstrWord) : decodeItem (.word w) = decodeWord w := rfl
@[simp] theorem decodeItem_named (n : Named) :
    decodeItem (.named n) = .error (.namedNotSpecified n) := rfl

end Sys2Proof
end

