-- ==== Sys2Proof/Laws/PerInstr.lean ====
section
/-! SUPPORT. Statements made per instruction, one lemma per constructor of Instr. -/

namespace Sys2Proof
namespace Laws
namespace EncodingShape

/-- The instruction is well formed, and its word matches the table's mask and match (R88, R90). -/
def Statement (i : Instr) : Prop := i.wf = true ∧ encode i &&& 0xFFFFFFE0#32 = 0xD5380600#32

theorem mrsIdAa64isar0El1 (t : RegNum) : Statement (.mrsIdAa64isar0El1 t) := by
  revert t; unfold Statement; decide

end EncodingShape
end Laws
end Sys2Proof
end

