-- ==== Sys2Proof/Laws/ProgramText.lean ====
section
/-! SUPPORT. The laws of the program text: a read after a write, and that a write keeps the canonical form. -/

namespace Sys2Proof
namespace Machine

@[simp] theorem programRead_write_same (p : ProgramText) (n : Nat) (item : FetchItem) :
    programRead (programWrite p n item) n = some item := by
  induction p with
  | nil => simp [programWrite, programRead]
  | cons e rest ih =>
    obtain ⟨a, old⟩ := e
    unfold programWrite
    split
    · simp [programRead]
    · split
      · simp [programRead]
      · have : a ≠ n := by omega
        simp [programRead, this, ih]

theorem programRead_write_other (p : ProgramText) {n m : Nat} (item : FetchItem) (h : m ≠ n) :
    programRead (programWrite p n item) m = programRead p m := by
  induction p with
  | nil => simp [programWrite, programRead, Ne.symm h]
  | cons e rest ih =>
    obtain ⟨a, old⟩ := e
    unfold programWrite
    split
    · simp [programRead, Ne.symm h]
    · split
      · rename_i h1 h2
        subst h2
        simp [programRead, Ne.symm h]
      · simp [programRead, ih]

theorem risesFrom_mono {p : ProgramText} {lo lo' : Nat} (h : lo' ≤ lo)
    (hp : ProgramText.risesFrom lo p = true) : ProgramText.risesFrom lo' p = true := by
  cases p with
  | nil => rfl
  | cons e rest =>
    obtain ⟨a, old⟩ := e
    simp only [ProgramText.risesFrom, Bool.and_eq_true, decide_eq_true_eq] at hp ⊢
    exact ⟨⟨by omega, hp.1.2⟩, hp.2⟩

theorem risesFrom_write (p : ProgramText) (lo n : Nat) (item : FetchItem) (hlo : lo ≤ n)
    (hn : n < 2 ^ 64) (hp : ProgramText.risesFrom lo p = true) :
    ProgramText.risesFrom lo (programWrite p n item) = true := by
  induction p generalizing lo with
  | nil => simpa [programWrite, ProgramText.risesFrom] using ⟨hlo, hn⟩
  | cons e rest ih =>
    obtain ⟨a, old⟩ := e
    simp only [ProgramText.risesFrom, Bool.and_eq_true, decide_eq_true_eq] at hp
    obtain ⟨⟨h1, h2⟩, h3⟩ := hp
    unfold programWrite
    split
    · rename_i hlt
      simp only [ProgramText.risesFrom, Bool.and_eq_true, decide_eq_true_eq]
      exact ⟨⟨hlo, hn⟩, ⟨by omega, h2⟩, h3⟩
    · split
      · rename_i heq
        subst heq
        simp only [ProgramText.risesFrom, Bool.and_eq_true, decide_eq_true_eq]
        exact ⟨⟨h1, h2⟩, h3⟩
      · simp only [ProgramText.risesFrom, Bool.and_eq_true, decide_eq_true_eq]
        exact ⟨⟨h1, h2⟩, ih (a + 1) (by omega) h3⟩

/-- Placing an item below 2^64 keeps the canonical form. -/
theorem programWrite_wf (p : ProgramText) (n : Nat) (item : FetchItem) (hn : n < 2 ^ 64)
    (hp : p.wf = true) : ProgramText.wf (programWrite p n item) = true :=
  risesFrom_write p 0 n item (Nat.zero_le n) hn hp

theorem withFetchWord_wf (s : State) (n w : Nat) (hp : s.program.wf = true) :
    (s.withFetchWord n w).program.wf = true :=
  programWrite_wf _ _ _ s.pc.isLt hp

@[simp] theorem fetch_withFetchWord (s : State) (n w : Nat) :
    (s.withFetchWord n w).fetch = some (.word (BitVec.ofNat 32 (w % 2 ^ n))) := by
  simp [State.fetch, State.withFetchWord]

theorem reset_program_wf : State.reset.program.wf = true := rfl

end Machine
end Sys2Proof
end

