-- ==== Sys2Proof/Laws/Step.lean ====
section
/-! SUPPORT. What a step and a run can do, said once: the inversion of each outcome, and the induction over a
run. -/

namespace Sys2Proof
namespace Machine

theorem finishStep_next {o : Host.Outcome State Fault Refusal} {s' : State} :
    finishStep o = .next s' ↔ ∃ s1, o = .next s1 ∧ s' = s1.takeNextInputs := by
  cases o <;> simp [finishStep, eq_comm]

theorem finishStep_fault {o : Host.Outcome State Fault Refusal} {f : Fault} :
    finishStep o = .fault f ↔ o = .fault f := by
  cases o <;> simp [finishStep]

/-- A step answers a next state only by a completed read of the instruction the pc's item decodes to. -/
theorem step_next {s s' : State} (h : step s = .next s') :
    s.config.firstFailed = none ∧ ∃ item t, s.fetch = some item
      ∧ decodeItem item = .ok (.mrsIdAa64isar0El1 t)
      ∧ accessOutcome s.config s.inputs = .completedRead
      ∧ s' = (completedRead t s).takeNextInputs := by
  unfold step at h
  split at h
  · simp at h
  · rename_i hc
    split at h
    · simp at h
    · rename_i item hf
      split at h
      · simp at h
      · rename_i i hd
        cases i with
        | mrsIdAa64isar0El1 t =>
          obtain ⟨s1, h1, h2⟩ := finishStep_next.1 h
          obtain ⟨ho, rfl⟩ := exec_next.1 h1
          exact ⟨hc, item, t, hf, hd, ho, h2⟩

/-- A step faults only by the fault of the instruction the pc's item decodes to. -/
theorem step_fault {s : State} {f : Fault} (h : step s = .fault f) :
    s.config.firstFailed = none ∧ ∃ item i, s.fetch = some item ∧ decodeItem item = .ok i
      ∧ exec i s = .fault f := by
  unfold step at h
  split at h
  · simp at h
  · rename_i hc
    split at h
    · simp at h
    · rename_i item hf
      split at h
      · simp at h
      · rename_i i hd
        exact ⟨hc, item, i, hf, hd, finishStep_fault.1 h⟩

/-- What one step does to each field. -/
theorem step_next_fields {s s' : State} (h : step s = .next s') :
    s'.config = s.config ∧ s'.program = s.program ∧ s'.pc = s.pc + 4
      ∧ ∃ t : RegNum, ∀ i : Fin 31,
          s'.readX i = if i.val = t.toNat then readValue s.config s.inputs else s.readX i := by
  obtain ⟨_, _, t, _, _, _, rfl⟩ := step_next h
  exact ⟨by simp, by simp, by simp, t, fun i => by simp⟩

/-- Induction over a run, once: what holds at its start and is kept by every step holds where it stands. -/
theorem runFrom_induction {P : State → Prop} (hstep : ∀ s s', step s = .next s' → P s → P s') :
    ∀ k s, P s → P (runFrom k s).last := by
  intro k
  induction k with
  | zero => intro s hs; exact hs
  | succ k ih =>
    intro s hs
    unfold runFrom
    cases h : step s with
    | next s' => exact ih s' (hstep s s' h hs)
    | fault f => exact hs
    | refused r => exact hs

/-- A run without a stop is the host's run. -/
theorem reaches_succ {k : Nat} {s s' : State} :
    Reaches (k + 1) s s' ↔ ∃ s1, step s = .next s1 ∧ Reaches k s1 s' := by
  unfold Reaches
  rw [runFrom]
  cases h : step s <;> simp

end Machine
end Sys2Proof
end

