-- ==== Sys2Proof/Tests/Slice0.lean ====
section
/-! SUPPORT. The model's own tests. Expected results come from the spec's encodings and from the vectors of
95_test_vectors.md, named at each theorem; then, for every statement with hypotheses, a concrete state
and operands that meet them together (`witness_<statement>`). -/

namespace Sys2Proof
namespace Tests

open Machine Claims

/-! ## Well-formedness of an access: a term each check refuses (R86) -/

/-- The access of R86 with destination X5. -/
def goodTerm : SysRegTerm := { direction := .read, selector := ⟨0b11, 0b000, 0b0000, 0b0110, 0b000⟩, t := 5 }

theorem test_wf_accepts_the_read : goodTerm.wf = true := by decide
theorem test_wf_refuses_write : { goodTerm with direction := .write }.wf = false := by decide
theorem test_wf_refuses_op0 : { goodTerm with selector := ⟨0b10, 0, 0, 6, 0⟩ }.wf = false := by decide
theorem test_wf_refuses_op1 : { goodTerm with selector := ⟨3, 1, 0, 6, 0⟩ }.wf = false := by decide
theorem test_wf_refuses_crn : { goodTerm with selector := ⟨3, 0, 1, 6, 0⟩ }.wf = false := by decide
theorem test_wf_refuses_crm : { goodTerm with selector := ⟨3, 0, 0, 7, 0⟩ }.wf = false := by decide
theorem test_wf_refuses_op2 : { goodTerm with selector := ⟨3, 0, 0, 6, 1⟩ }.wf = false := by decide

/-! ## Decoding (95_test_vectors.md section 5; the word of R88 bit by bit) -/

/-- 1101010100 1 1 1 000 0000 0110 000 00101: fixed, L, fixed, o0, op1, CRn, CRm, op2, Rt = 5 (R88). -/
theorem test_decode_word_bit_by_bit :
    decodeWord 0b11010101001110000000011000000101#32 = .ok (.mrsIdAa64isar0El1 5) := by decide

/-- The accepted words, with their assembler form (the first table of section 5). -/
theorem test_decode_accepted_words :
    [(0xD5380600, "MRS X0, ID_AA64ISAR0_EL1"), (0xD5380601, "MRS X1, ID_AA64ISAR0_EL1"),
     (0xD5380605, "MRS X5, ID_AA64ISAR0_EL1"), (0xD5380611, "MRS X17, ID_AA64ISAR0_EL1"),
     (0xD538061E, "MRS X30, ID_AA64ISAR0_EL1"), (0xD538061F, "MRS XZR, ID_AA64ISAR0_EL1")].all
      (fun (p : Nat × String) => (decodeTableWord 32 p.1).map Instr.asm == some p.2) = true := by
  decide +kernel

/-- The refused words (the second table of section 5), the write form apart. -/
theorem test_decode_refused_words :
    [0xD5380620, 0xD5380500, 0xD5380700, 0xD5300600, 0xD5390600, 0xD5381600, 0xD5280600, 0xD5780600,
     0x55380600, 0x00000000, 0xFFFFFFFF, 0xD503201F].all
      (fun w => match decodeWord (BitVec.ofNat 32 w) with | .error .notInThisSpec => true | _ => false)
      = true := by decide

theorem test_decode_write_form :
    [0xD5180600, 0xD5180605].all
      (fun w => match decodeWord (BitVec.ofNat 32 w) with | .error .writeFormToReadOnly => true | _ => false)
      = true := by decide

theorem test_encode_x17 : encode (.mrsIdAa64isar0El1 17) = 0xD5380611#32 := by decide
theorem test_generic_name : idAa64isar0Point.genericName = "S3_0_C0_C6_0" := by decide +kernel

/-! ## The register and the checks (95_test_vectors.md sections 2 to 4) -/

/-- A configuration with the field values of `v`, FEAT_AA64 and EL3, and the given version. -/
def withValue (v : Word) (a : ArchTests) : Config := { resetConfig.withFields v with arch := a }

/-- The version columns of section 3.1. -/
def pre : ArchTests := ⟨false, false, false, false, false, false, false, false⟩
def v81 : ArchTests := ⟨true, false, false, false, true, false, false, false⟩
def v84 : ArchTests := ⟨true, true, false, false, false, true, false, false⟩
def v85 : ArchTests := ⟨true, true, true, false, false, false, true, false⟩
def v97 : ArchTests := ⟨true, true, true, true, false, false, false, true⟩

/-- V6, V9, V10: the value packed again from its fields, and single-field probes of the slices. -/
theorem test_packing :
    [0x0000000100002100, 0x0221111110212120, 0x1221111110312120].all
      (fun v => (withValue v pre).idisar0 == v) = true
    ∧ fieldOf 0x0000010000000000 .sm4 = 1 ∧ fieldOf 0x0000000001000000 .res27_24 = 1
    ∧ fieldOf 0x0000000000100000 .atomic = 1 ∧ fieldOf 0x1000000000000000 .rndr = 1 := by decide +kernel

/-- V1, V6, V10 and W1 to W14: `WF_values` and `WF_cross`. -/
theorem test_wf_values_and_cross :
    [(0x0000000000000000, true, true), (0x0000000100002100, true, true), (0x1221111110312120, true, true),
     (0x0000010000000000, true, false), (0x0000001000000000, true, false), (0x0000000000002100, true, false),
     (0x0000000000001000, true, false), (0x0000000000000100, true, false), (0x0000000100000000, true, false),
     (0x0000000100001100, true, false), (0x0000000000100000, false, true), (0x0300000000000000, false, true),
     (0x2000000000000000, false, true), (0x0000000000000030, false, true), (0x0002000000000000, false, true),
     (0x0000000001000000, false, true), (0x000000000000000F, false, true)].all
      (fun (r : Word × Bool × Bool) => wfValues r.1 == r.2.1 && wfCross r.1 == r.2.2) = true := by
  decide +kernel

/-- Section 3.1, the columns 8.1, 8.4, 8.5 literal and 8.5 strict, FEAT_FP16 and FEAT_AdvSIMD both true. -/
theorem test_wf_version :
    [(0x0000000000000000, false, false, false, false), (0x0000000010210000, true, false, false, false),
     (0x0201111110212120, true, false, true, false), (0x0211111110212120, true, true, false, false),
     (0x0221111110212120, true, true, true, true), (0x0210000010210000, true, false, false, false),
     (0x0200000010210000, true, false, false, false), (0x0221100010210000, true, true, true, true)].all
      (fun (r : Word × Bool × Bool × Bool × Bool) =>
        let c := fun a => { withValue r.1 a with featFP16 := true, featAdvSIMD := true }
        (c v81).wfVersion == r.2.1 && (c v84).wfVersion == r.2.2.1 && (c v85).wfVersion == r.2.2.2.1
          && (c v85).wfVersionStrict == r.2.2.2.2) = true := by decide +kernel

/-- A refusal names the failed check: W10, W1, V1 at Armv8.1, unlawful tests, N7, a view outside {0, 1}. -/
theorem test_refusals_name_the_check :
    (withValue 0x2000000000000000 pre).firstFailed = some .wfValues
    ∧ (withValue 0x0000010000000000 pre).firstFailed = some .wfCross
    ∧ (withValue 0 v81).firstFailed = some .wfVersion
    ∧ (withValue 0 { pre with is8_1 := true }).firstFailed = some .archLaws
    ∧ { resetConfig with featRNGTRAP := true, haveEL3 := false }.firstFailed = some .rngTrapNeedsEL3
    ∧ { resetConfig with rndrViewTable := Vector.replicate 32 2 }.firstFailed = some .rndrViewRange
    ∧ (withValue 0x0221111110212120 v97).firstFailed = none := by decide +kernel

/-- The names of section 4, one per row of its table. -/
def firstNames : List Named :=
  [.rndr, .outerShareableTlbMaintenance, .tlbRangeMaintenance, .cfinv, .axflag, .fmlal, .udot, .sm4e, .sm3ss1,
   .eor3, .sqrdmlah, .ldadd, .ldclrp, .crc32b, .sha256h, .sha512h, .sha1c, .aese, .pmull]

/-- Section 4: the columns V4, V5 and V9. -/
theorem test_reports_columns :
    firstNames.filter (reports 0x0000100010211120)
      = [.udot, .sqrdmlah, .ldadd, .crc32b, .sha256h, .sha1c, .aese, .pmull]
    ∧ firstNames.filter (reports 0x0110000000000010) = [.outerShareableTlbMaintenance, .cfinv, .aese]
    ∧ firstNames.filter (fun n => !reports 0x0221111110212120 n) = [.rndr, .ldclrp] := by decide +kernel

/-- Section 4: the features of the configuration V4. -/
theorem test_features_of_v4 :
    [Feature.rng, .tlbios, .tlbirange, .flagM, .flagM2, .fhm, .dotProd, .sm4, .sm3, .sha3, .rdm, .lse, .lse128,
     .crc32, .sha256, .sha512, .sha1, .aes, .pmull].filter
      (withValue 0x0000100010211120 pre).isFeatureImplemented
      = [.dotProd, .rdm, .lse, .crc32, .sha256, .sha1, .aes, .pmull] := by decide +kernel

/-! ## The access (95_test_vectors.md sections 6 to 9) -/

/-- The configuration V9 at Armv8.5, with the three features of section 6's columns. -/
def v9 (idst idte3 haveEL3 : Bool) : Config :=
  { withValue 0x0221111110212120 v85 with featIDST := idst, featIDTE3 := idte3, haveEL3 := haveEL3 }

/-- The inputs of section 6's columns, from EL2En on; `SCR_EL3.TRNDR` is 0. -/
def inputs (el : EL) (el2En tge hTid3 sTid3 prio sdd : Bool) : Inputs :=
  { el := el, el2Enabled := el2En, hcrEl2 := ⟨BitVec.ofBool tge, BitVec.ofBool hTid3⟩
    scrEl3 := ⟨BitVec.ofBool sTid3, 0⟩, el3SDDUndefPriority := prio, el3SDDUndef := sdd }

abbrev T := true
abbrev F := false

/-- The vectors A1 to A30, with the row of R111 each names last. -/
def accessVectors : List (Config × Inputs × AccessOutcome × Nat) :=
  [(v9 F F F, inputs .el0 F F F F F F, .undefined, 2),
   (v9 F T T, inputs .el0 T T T T T T, .undefined, 2),
   (v9 T F F, inputs .el0 F F F F F F, .systemAccessTrap .el1 24, 4),
   (v9 T F F, inputs .el0 T F F F F F, .systemAccessTrap .el1 24, 4),
   (v9 T F F, inputs .el0 F T F F F F, .systemAccessTrap .el1 24, 4),
   (v9 T F F, inputs .el0 T T F F F F, .systemAccessTrap .el2 24, 3),
   (v9 T T T, inputs .el0 T T T T T T, .systemAccessTrap .el2 24, 3),
   (v9 F F F, inputs .el1 F F F F F F, .completedRead, 10),
   (v9 F F F, inputs .el1 T F T F F F, .systemAccessTrap .el2 24, 7),
   (v9 F F F, inputs .el1 F F T F F F, .completedRead, 10),
   (v9 F F F, inputs .el1 T T F F F F, .completedRead, 10),
   (v9 F T T, inputs .el1 F F F T F F, .systemAccessTrap .el3 24, 9),
   (v9 F T T, inputs .el1 F F F T F T, .undefined, 8),
   (v9 F T T, inputs .el1 F F F T T F, .undefined, 5),
   (v9 F T T, inputs .el1 T F T T F F, .systemAccessTrap .el2 24, 6),
   (v9 F T T, inputs .el1 T F T T T F, .undefined, 5),
   (v9 F T T, inputs .el1 T F T T F T, .systemAccessTrap .el2 24, 6),
   (v9 F F T, inputs .el1 F F F T T T, .completedRead, 10),
   (v9 F T F, inputs .el1 F F F T T T, .completedRead, 10),
   (v9 F T T, inputs .el1 F F F F T T, .completedRead, 10),
   (v9 F F F, inputs .el2 F F F F F F, .completedRead, 14),
   (v9 F F F, inputs .el2 T T T F F F, .completedRead, 14),
   (v9 F T T, inputs .el2 T T T T F F, .systemAccessTrap .el3 24, 13),
   (v9 F T T, inputs .el2 F F F T F T, .undefined, 12),
   (v9 F T T, inputs .el2 F F F T T F, .undefined, 11),
   (v9 F T T, inputs .el2 F F F T T T, .undefined, 11),
   (v9 F T F, inputs .el2 F F F T T T, .completedRead, 14),
   (v9 F F T, inputs .el2 F F F T T T, .completedRead, 14),
   (v9 F F F, inputs .el3 F F F F F F, .completedRead, 15),
   (v9 T T T, inputs .el3 T T T T T T, .completedRead, 15)]

/-- Each vector has the outcome of section 6, by the pseudocode and by the row of R111 it names. -/
theorem test_access_vectors :
    accessVectors.all (fun v =>
      accessOutcome v.1 v.2.1 == v.2.2.1
        && (outcomeTable[v.2.2.2 - 1]?.any fun r => r.applies v.1 v.2.1 && r.outcome == v.2.2.1)) = true := by
  decide +kernel

/-- N1 to N6 for V9 and V10, `RNDR_VIEW` being the instance G4 (a parameter like any other). -/
theorem test_rndr_nibble_as_read :
    let g4 : Vector Nibble 32 := Vector.ofFn fun i => if i.val % 2 = 1 then 1 else BitVec.ofNat 4 (i.val / 2)
    let c := fun v trap => { withValue v v85 with featRNGTRAP := trap, rndrViewTable := g4 }
    let u := fun b => { resetInputs resetConfig with scrEl3 := { tid3 := 0, trndr := b } }
    readValue (c 0x0221111110212120 false) (u 1) = 0x0221111110212120
    ∧ readValue (c 0x1221111110312120 false) (u 1) = 0x1221111110312120
    ∧ readValue (c 0x0221111110212120 true) (u 0) = 0x0221111110212120
    ∧ readValue (c 0x0221111110212120 true) (u 1) = 0x1221111110212120
    ∧ readValue (c 0x1221111110312120 true) (u 0) = 0x1221111110312120
    ∧ readValue (c 0x1221111110312120 true) (u 1) = 0x1221111110312120 := by decide +kernel

/-- A state at `pc` with one word there, `X5` holding 5. -/
def at_ (c : Config) (u : Inputs) (pc : Word) (w : InstrWord) : State :=
  { (State.resetOf c).writeX 5 5 with inputs := u, pc := pc, program := [(pc.toNat, .word w)] }

@[simp] theorem at_config (c : Config) (u : Inputs) (pc : Word) (w : InstrWord) : (at_ c u pc w).config = c := rfl
@[simp] theorem at_inputs (c : Config) (u : Inputs) (pc : Word) (w : InstrWord) : (at_ c u pc w).inputs = u := rfl

/-- P1 with X5 for X0: one step at EL1, no trap armed. -/
theorem test_step_reads_at_el1 :
    (match step (at_ (v9 F F F) (inputs .el1 F F F F F F) 0x1000 0xD5380605) with
      | .next s => s.readX 5 == 0x0221111110212120 && s.readX 6 == 0 && s.pc == 0x1004
      | _ => false) = true := by decide +kernel

/-- P3: at EL0 with FEAT_IDST the first instruction is trapped to EL1 with its pc and t. -/
theorem test_step_traps_at_el0 :
    (match step (at_ (v9 T F F) (inputs .el0 F F F F F F) 0x3000 0xD5380605) with
      | .fault f => f == .systemAccessTrap .el1 0x18 0x3000 5
      | _ => false) = true := by decide +kernel

/-! ## Witnesses: the hypotheses of the statements, met together -/

/-- A state at EL3 with every trap control set (P2), a read of X5 at its pc and another after it. -/
def wEL3 : State :=
  { at_ (v9 T T T) (inputs .el3 T T T T T T) 0x2000 0xD5380605 with
    program := [(0x2000, .word 0xD5380605), (0x2004, .word 0xD538061F)] }
def wEL2 : State := at_ (v9 F F F) (inputs .el2 T T T F F F) 0x1000 0xD538061E
def wEL1 : State := at_ (v9 F F F) (inputs .el1 T T F F F F) 0x1000 0xD538061F
/-- With FEAT_RNG_TRAP, the view's entry for (0, 1) being 1 and every other 0, at `SCR_EL3.TRNDR` = `b`. -/
def wTrap (b : Bit) : State :=
  at_ { v9 F T T with featRNGTRAP := true, rndrViewTable := (Vector.replicate 32 0).set 1 1 }
    { inputs .el3 F F F F F F with scrEl3 := ⟨0, b⟩ } 0xFFFFFFFFFFFFFFFC 0xD5380600
def wEL0 : State := at_ (v9 T F F) (inputs .el0 T T F F F F) 0x3000 0xD5380605

theorem witness_accepted :
    wEL3.config.firstFailed = none ∧ wEL2.config.firstFailed = none ∧ wEL1.config.firstFailed = none
    ∧ (wTrap 0).config.firstFailed = none ∧ (wTrap 1).config.firstFailed = none
    ∧ wEL0.config.firstFailed = none ∧ (v9 F T T).firstFailed = none ∧ wEL3.program.wf = true := by
  decide +kernel

theorem witness_LegalShaTriplesAndValueCount :
    wfValues 0x0221111110212120 = true
    ∧ (1 : Nibble) ∈ [0, 1] ∧ (2 : Nibble) ∈ [0, 1, 2] := by decide +kernel

theorem witness_WellFormednessChecksSpelledOut : (withValue 0x2000000000000000 pre).wf = false := by
  decide +kernel

theorem witness_StepRefusesExactlyIllFormedConfigurations :
    step (State.resetOf (withValue 0x2000000000000000 pre)) = .refused (.configRefused .wfValues) := rfl

/-- V8 at Armv8.4, V9 at Armv8.5, both with the two features: every premise of the version clauses. -/
theorem witness_VersionsForbidFieldValues :
    let c := fun v a => { withValue v a with featFP16 := true, featAdvSIMD := true }
    (c 0x0211111110212120 v84).firstFailed = none ∧ (c 0x0211111110212120 v84).arch.is8_4 = true
    ∧ (c 0x0211111110212120 v84).arch.atLeast8_4 = true ∧ (c 0x0211111110212120 v84).arch.atLeast8_1 = true
    ∧ (c 0x0221111110212120 v85).firstFailed = none ∧ (c 0x0221111110212120 v85).arch.atLeast8_5 = true
    ∧ (c 0x0221111110212120 v85).wfVersionStrict = true := by decide +kernel

theorem witness_FeaturesAreReadOffTheFields :
    (v9 T T T).pSm4 = 1 ∧ (v9 T T T).pSm3 = 1 ∧ (v9 T T T).pSha3 = 1 := by decide +kernel

theorem witness_VersionTestsObeyExactlyTheirLaws : v97.lawful = true ∧ v84.lawful = true := by decide

/-- The three levels a read completes at, and one it does not; t is 5, 30 and 31. -/
theorem witness_CompletedReadWritesDestinationAndPc :
    ReadCompletes wEL3 ∧ ReadCompletes wEL2 ∧ ReadCompletes wEL1 ∧ ¬ ReadCompletes wEL0 := by
  simp only [ReadCompletes, El3Armed, El2Armed]; decide +kernel

theorem witness_ReadReturnsTheRegisterBits :
    ReadCompletes (wTrap 1) ∧ (wTrap 1).config.featRNGTRAP = true ∧ wEL2.config.featRNGTRAP = false
    ∧ ReadCompletes wEL2 ∧ (30 : Fin 31).val = (30 : RegNum).toNat ∧ (0 : Fin 31).val = (0 : RegNum).toNat
    ∧ ({ resetConfig with featRNGTRAP := true, haveEL3 := false } : Config).haveEL3 = false := by
  simp only [ReadCompletes, El3Armed, El2Armed]; decide +kernel

theorem witness_ReadLeavesEverythingElse : ∃ s', exec (.mrsIdAa64isar0El1 30) wEL2 = .next s' := ⟨_, rfl⟩
theorem witness_ReadLeavesEverythingElse_xzr :
    exec (.mrsIdAa64isar0El1 31) wEL1 = .next { wEL1 with pc := 0x1004 } := rfl

theorem witness_AbsentRegisterIsUndefined : { resetConfig with featAA64 := false }.featAA64 = false := rfl

/-- A6, A4 and A1: the three clauses of the EL0 branch. -/
theorem witness_ReadAtEL0 :
    (El2TakesEL0 wEL0 ∧ wEL0.config.featAA64 = true ∧ wEL0.config.featIDST = true ∧ wEL0.inputs.el = .el0)
    ∧ ¬ El2TakesEL0 { wEL0 with inputs := inputs .el0 T F F F F F }
    ∧ { wEL0 with config := v9 F F F }.config.featIDST = false := by
  simp only [El2TakesEL0]; decide +kernel

/-- A state under the configuration of A12 with the given EL1 or EL2 inputs. -/
def wArmed (el : EL) (el2En hTid3 sTid3 prio sdd : Bool) : State :=
  at_ (v9 F T T) (inputs el el2En F hTid3 sTid3 prio sdd) 0x5000 0xD5380611

/-- A16, A15, A13, A12 and A20: the five clauses of the EL1 branch. -/
theorem witness_ReadAtEL1 :
    (El3Armed (wArmed .el1 T T T T F) ∧ (wArmed .el1 T T T T F).inputs.el3SDDUndefPriority = true)
    ∧ (El2Armed (wArmed .el1 T T T F F) ∧ (wArmed .el1 T T T F F).inputs.el3SDDUndefPriority = false)
    ∧ (¬ El2Armed (wArmed .el1 F F T F T) ∧ El3Armed (wArmed .el1 F F T F T)
        ∧ (wArmed .el1 F F T F T).inputs.el3SDDUndef = true)
    ∧ (¬ El2Armed (wArmed .el1 F F T F F) ∧ El3Armed (wArmed .el1 F F T F F)
        ∧ (wArmed .el1 F F T F F).inputs.el3SDDUndef = false)
    ∧ (¬ El2Armed (wArmed .el1 F F F T T) ∧ ¬ El3Armed (wArmed .el1 F F F T T))
    ∧ (wArmed .el1 F F F T T).config.featAA64 = true ∧ (wArmed .el1 F F F T T).inputs.el = .el1 := by
  simp only [El3Armed, El2Armed]; decide +kernel

/-- A25, A24, A23 and A22: the clauses of the EL2 branch. -/
theorem witness_ReadAtEL2 :
    (El3Armed (wArmed .el2 F F T T F) ∧ (wArmed .el2 F F T T F).inputs.el3SDDUndefPriority = true)
    ∧ (El3Armed (wArmed .el2 F F T F T) ∧ (wArmed .el2 F F T F T).inputs.el3SDDUndef = true)
    ∧ (El3Armed (wArmed .el2 T T T F F) ∧ (wArmed .el2 T T T F F).inputs.el3SDDUndefPriority = false
        ∧ (wArmed .el2 T T T F F).inputs.el3SDDUndef = false)
    ∧ ¬ El3Armed wEL2 ∧ wEL2.config.featAA64 = true ∧ wEL2.inputs.el = .el2 := by
  simp only [El3Armed]; decide +kernel

theorem witness_ReadAtEL3 : wEL3.config.featAA64 = true ∧ wEL3.inputs.el = .el3 := by decide +kernel

/-- Every row of the table applies somewhere: rows 2 to 15 at a vector of section 6, row 1 without FEAT_AA64. -/
theorem witness_OutcomeTableIsThePseudocode :
    outcomeTable.all (fun r => (accessVectors.any fun v => r.applies v.1 v.2.1)
      || r.applies { resetConfig with featAA64 := false } (resetInputs resetConfig)) = true := by decide +kernel

/-- A12 traps to EL3; with it the premise of the upward rule. -/
theorem witness_TrapsGoStrictlyUpward :
    step (wArmed .el1 F F T F F) = .fault (.systemAccessTrap .el3 0x18 0x5000 17) := rfl

/-- What may differ: at EL0 without FEAT_IDST everything but the level (A1, A2); at EL1 without EL2 and EL3 the
rest (A8, A19); at EL1 under the priority test the EL2 inputs and `EL3SDDUndef()` (A16); at EL1 with the EL2 trap
taken `SCR_EL3.TID3` and `EL3SDDUndef()` (A15, A17); at EL1 and EL2 without the EL3 trap the two SDD predicates; at
EL2 under the priority test the rest (A25). -/
theorem witness_UnconsultedInputsDoNotMatter :
    ConsultedAgree (at_ (v9 F T T) (inputs .el0 F F F F F F) 0 0xD5380605) (inputs .el0 T T T T T T)
    ∧ ConsultedAgree (at_ (v9 F T F) (inputs .el1 F F F F F F) 0 0xD5380605) (inputs .el1 F T T T T T)
    ∧ ConsultedAgree (wArmed .el1 F F T T F) (inputs .el1 T T T T T T)
    ∧ ConsultedAgree (wArmed .el1 T T T F F) (inputs .el1 T T T F F T)
    ∧ ConsultedAgree (wArmed .el1 F F F F F) (inputs .el1 F T T F T T)
    ∧ ConsultedAgree (wArmed .el2 F F F F F) (inputs .el2 T T T F T T)
    ∧ ConsultedAgree (wArmed .el2 F F T T F) (inputs .el2 T T T T T T) := by
  simp [ConsultedAgree, PriorityTestAgrees, El3Armed, El2Armed, wArmed, inputs, v9]

/-- `SCR_EL3.TRNDR` may differ where the read is trapped, with FEAT_RNG_TRAP, and everything may differ without
FEAT_AA64, the level included. -/
theorem witness_UnconsultedInputsDoNotMatter_trndr :
    let c := { v9 T T T with featRNGTRAP := true }
    ConsultedAgree (at_ c (inputs .el1 T F T F F F) 0 0xD5380605)
      { inputs .el1 T F T F F F with scrEl3 := ⟨0, 1⟩ }
    ∧ ConsultedAgree (at_ { c with featAA64 := false } (inputs .el1 T F T F F F) 0 0xD5380605)
      { inputs .el3 F T F T T T with scrEl3 := ⟨1, 1⟩ } := by
  simp [ConsultedAgree, PriorityTestAgrees, ReadCompletes, El3Armed, El2Armed, inputs, v9]

/-- Two accepted configurations with different register values and the same two features. -/
theorem witness_EL0LearnsNothingOfTheRegister :
    wEL0.inputs.el = .el0 ∧ ({ resetConfig with featIDST := true } : Config).firstFailed = none
    ∧ ({ resetConfig with featIDST := true } : Config).featIDST = wEL0.config.featIDST
    ∧ ({ resetConfig with featIDST := true } : Config).featAA64 = wEL0.config.featAA64
    ∧ ({ resetConfig with featIDST := true } : Config).idisar0 ≠ wEL0.config.idisar0 := by decide +kernel

theorem witness_TerminalOutcomeEndsTheRunUnchanged :
    step wEL0 = .fault (.systemAccessTrap .el2 0x18 0x3000 5) := rfl

/-- The clauses of the step: no later inputs, one later input, a fault (wEL0), and nothing at the pc. -/
theorem witness_StepRunsTheDecodedInstruction :
    programRead wEL2.program wEL2.pc.toNat = some (.word 0xD538061E)
    ∧ (∃ s1, exec (.mrsIdAa64isar0El1 30) wEL2 = .next s1 ∧ s1.laterInputs = [])
    ∧ (∃ s1, exec (.mrsIdAa64isar0El1 30) { wEL2 with laterInputs := [resetInputs resetConfig] } = .next s1
        ∧ s1.laterInputs = resetInputs resetConfig :: [])
    ∧ (∃ f, exec (.mrsIdAa64isar0El1 5) wEL0 = .fault f)
    ∧ programRead State.reset.program State.reset.pc.toNat = none
    ∧ State.reset.config.firstFailed = none :=
  ⟨rfl, ⟨_, rfl, rfl⟩, ⟨_, rfl, rfl⟩, ⟨_, rfl⟩, rfl, rfl⟩

theorem witness_NamedInstructionsAreRefused :
    programRead { wEL2 with program := [(0x1000, .named .cfinv)] }.program wEL2.pc.toNat = some (.named .cfinv) :=
  rfl

theorem witness_WriteFormIsRefusedByName :
    programRead { wEL2 with program := [(0x1000, .word 0xD518061F)] }.program wEL2.pc.toNat
      = some (.word (BitVec.ofNat 32 (0xD5180600 + (31 : RegNum).toNat))) := rfl

/-- The words beside the accepted and the write ranges, at both ends. -/
theorem witness_EveryOtherWordIsRefused :
    [0xD5380620, 0xD53805FF, 0xD5180620, 0xD51805FF].all (fun w => decide (∀ t : RegNum,
      (BitVec.ofNat 32 w).toNat ≠ 0xD5380600 + t.toNat ∧ (BitVec.ofNat 32 w).toNat ≠ 0xD5180600 + t.toNat))
      = true := by decide +kernel

theorem witness_EveryStepKeepsTheRunInvariant : RunInv wEL3 wEL3 ∧ ∃ s', step wEL3 = .next s' :=
  ⟨⟨⟨by decide +kernel, by decide +kernel⟩, rfl, rfl, fun _ => Or.inl rfl⟩, _, rfl⟩

theorem witness_PcMovesFourPerStep : ∃ s', Reaches 1 wEL2 s' ∧ Reaches 0 wEL2 wEL2 := ⟨_, rfl, rfl⟩

/-- Two reads of one run, with and without FEAT_RNG_TRAP. -/
theorem witness_ReadsOfOneRunAgree :
    (∃ s' s1 s2, Reaches 1 wEL3 s' ∧ exec (.mrsIdAa64isar0El1 5) wEL3 = .next s1
      ∧ exec (.mrsIdAa64isar0El1 0) s' = .next s2 ∧ wEL3.config.featRNGTRAP = false)
    ∧ ∃ s' s1 s2, Reaches 1 (wTrap 1) s' ∧ exec (.mrsIdAa64isar0El1 5) (wTrap 1) = .next s1
      ∧ exec (.mrsIdAa64isar0El1 0) s' = .next s2
      ∧ s'.inputs.scrEl3.trndr = (wTrap 1).inputs.scrEl3.trndr :=
  ⟨⟨_, _, _, rfl, rfl, rfl, rfl⟩, _, _, _, rfl, rfl, rfl, rfl⟩

theorem witness_ReadValueIsBounded :
    (∃ s', exec (.mrsIdAa64isar0El1 0) (wTrap 1) = .next s') ∧ (wTrap 1).config.firstFailed = none :=
  ⟨⟨_, rfl⟩, by decide +kernel⟩

/-- The view returns `P_RNDR` at TRNDR 0 and another value at TRNDR 1. -/
theorem witness_ReadValueReportsTheRegister :
    (∃ s', exec (.mrsIdAa64isar0El1 0) (wTrap 0) = .next s') ∧ (v9 T T T).wf = true
    ∧ (wTrap 0).config.rndrView (wTrap 0).config.pRndr 0 = (wTrap 0).config.pRndr
    ∧ (wTrap 1).config.rndrView (wTrap 1).config.pRndr 1 ≠ (wTrap 1).config.pRndr :=
  ⟨⟨_, rfl⟩, by decide +kernel, by decide +kernel, by decide +kernel⟩

theorem witness_ReadsAtEL3RunOn :
    wEL3.config.featAA64 = true ∧ wEL3.inputs.el = .el3 ∧ wEL3.laterInputs = []
    ∧ programRead wEL3.program (wEL3.pc + 0).toNat = some (.word 0xD5380605)
    ∧ programRead wEL3.program (wEL3.pc + 4).toNat = some (.word 0xD538061F)
    ∧ decodeWord 0xD5380605 = .ok (.mrsIdAa64isar0El1 5)
    ∧ decodeWord 0xD538061F = .ok (.mrsIdAa64isar0El1 31) := by decide +kernel

theorem witness_PlacedWordRunsNext :
    State.reset.config.firstFailed = none ∧ State.reset.laterInputs = [] ∧ State.reset.program.wf = true := by
  decide +kernel

/-- The premises of the five sentences: V1 for the first, third and fifth, V9 for the others. -/
theorem witness_ShaSentencesHold :
    resetConfig.firstFailed = none ∧ resetConfig.pSha1 = 0b0000#4 ∧ resetConfig.pSha2 = 0b0000#4
    ∧ (v9 T T T).firstFailed = none ∧ (v9 T T T).pSha3 = 0b0001#4 ∧ (v9 T T T).pSha2 = 0b0010#4 := by
  decide +kernel

end Tests
end Sys2Proof
end

namespace Sys2Proof
namespace StateProofs

open Machine Claims

/-! ## Runs: the register has no writer, and the run invariant (R23, R80, R106, R107) -/

/-- A step writes neither the configuration nor the program text. -/
theorem step_keeps_constants {s s' : State} (h : step s = .next s') :
    s'.config = s.config ∧ s'.program = s.program := by
  obtain ⟨hconfig, hprogram, -⟩ := step_next_fields h
  exact ⟨hconfig, hprogram⟩

/-- A run writes neither the configuration nor the program text. -/
theorem runFrom_keeps_constants (k : Nat) (s : State) :
    (runFrom k s).last.config = s.config ∧ (runFrom k s).last.program = s.program := by
  refine runFrom_induction (P := fun x => x.config = s.config ∧ x.program = s.program) ?_ k s ⟨rfl, rfl⟩
  intro x x' hstep ⟨hc, hp⟩
  obtain ⟨hc', hp'⟩ := step_keeps_constants hstep
  exact ⟨hc'.trans hc, hp'.trans hp⟩

/-- Settles O34: the register is computed from the configuration, which no run writes. -/
theorem registerHasNoWriter : Obligations.RegisterHasNoWriter := by
  intro k s
  obtain ⟨hc, hp⟩ := runFrom_keeps_constants k s
  exact ⟨by rw [hc], hc, hp⟩

/-- What a read leaves in its destination, in an accepted configuration, is a value a read can return. -/
theorem returnedByARead_readValue {c : Config} (h : c.firstFailed = none) (u : Inputs) :
    ReturnedByARead c (readValue c u) := by
  refine ⟨readValue_low c u, ?_⟩
  rw [readValue_high]
  simpa [Field.defined] using accepted_rndrAsRead h u

/-- The machine's invariant speaks of the configuration and the program text only, so a step keeps it. -/
theorem step_keeps_machineInv {s s' : State} (h : step s = .next s') (hinv : MachineInv s) :
    MachineInv s' := by
  obtain ⟨hc, hp⟩ := step_keeps_constants h
  unfold MachineInv
  rwa [hc, hp]

/-- A step leaves in each general register what it held or a value a read can return. -/
theorem step_readX {s s' : State} (h : step s = .next s') (i : Fin 31) :
    s'.readX i = s.readX i ∨ ReturnedByARead s.config (s'.readX i) := by
  obtain ⟨haccepted, -⟩ := step_next h
  obtain ⟨-, -, -, t, hx⟩ := step_next_fields h
  rw [hx i]
  split
  · exact .inr (returnedByARead_readValue haccepted s.inputs)
  · exact .inl rfl

/-- A step keeps the invariant of the run it belongs to. -/
theorem step_keeps_runInv {start s s' : State} (hinv : RunInv start s) (h : step s = .next s') :
    RunInv start s' := by
  obtain ⟨hm, hc, hp, hx⟩ := hinv
  obtain ⟨hc', hp'⟩ := step_keeps_constants h
  refine ⟨step_keeps_machineInv h hm, hc'.trans hc, hp'.trans hp, fun i => ?_⟩
  rcases step_readX h i with hsame | hread
  · rw [hsame]
    exact hx i
  · exact .inr (hc ▸ hread)

/-- Settles O35: kept by every step, and true where a run starts. -/
theorem everyStepKeepsTheRunInvariant : Obligations.EveryStepKeepsTheRunInvariant :=
  ⟨fun _ _ _ => step_keeps_runInv, fun _ hm => ⟨hm, rfl, rfl, fun _ => .inl rfl⟩⟩

/-! ## The layout: nibble by nibble, bit by bit, as a number (R9, R20, R22) -/

/-- The field at nibble `k`, counted from the least significant end. -/
def fieldAt (k : Nat) : Field := Field.all.reverse.getD k .res3_0

theorem fieldAt_lo_div (f : Field) : fieldAt (f.lo / 4) = f := by cases f <;> rfl

theorem lo_fieldAt : ∀ k < 16, (fieldAt k).lo = 4 * k := by decide

theorem four_dvd_lo (f : Field) : 4 ∣ f.lo := by cases f <;> decide

/-- The one field bit `i` lies in is the field at nibble `i / 4`. -/
theorem mem_range_iff {i : Nat} (hi : i < 64) (f : Field) :
    f.lo ≤ i ∧ i ≤ f.hi ↔ f = fieldAt (i / 4) := by
  unfold Field.hi
  constructor
  · intro h
    have hdiv : f.lo / 4 = i / 4 := by have := four_dvd_lo f; omega
    rw [← hdiv, fieldAt_lo_div]
  · rintro rfl
    rw [lo_fieldAt _ (by omega)]
    omega

/-- The bits of a field are the value's bits in the field's range. -/
theorem getLsbD_fieldOf (v : Word) (f : Field) {i : Nat} (hlo : f.lo ≤ i) (hhi : i ≤ f.hi) :
    (fieldOf v f).getLsbD (i - f.lo) = v.getLsbD i := by
  unfold Field.hi at hhi
  have hlt : i - f.lo < 4 := by omega
  simp [fieldOf, hlt, Nat.add_sub_cancel' hlo]

/-- The fields tile the register, so they determine its value. -/
theorem eq_of_fieldOf_eq {v w : Word} (h : ∀ f, fieldOf v f = fieldOf w f) : v = w := by
  apply BitVec.eq_of_getLsbD_eq
  intro i hi
  obtain ⟨hlo, hhi⟩ := (mem_range_iff hi (fieldAt (i / 4))).2 rfl
  rw [← getLsbD_fieldOf v _ hlo hhi, h, getLsbD_fieldOf w _ hlo hhi]

/-- Settles O2: bit `i` lies in the field at nibble `i / 4` and in no other. -/
theorem fieldRangesTileTheRegister : Obligations.FieldRangesTileTheRegister := by
  refine ⟨rfl, fun i hi => ⟨fieldAt (i / 4), ?_, fun f => (mem_range_iff hi f).1⟩,
    fun v f i => getLsbD_fieldOf v f⟩
  exact (mem_range_iff hi _).2 rfl

/-- A concatenation as a number: the low part, and the high part at its weight. -/
theorem toNat_append_eq_add {m n : Nat} (x : BitVec m) (y : BitVec n) :
    (x ++ y).toNat = x.toNat * 2 ^ n + y.toNat := by
  rw [BitVec.toNat_append, ← Nat.shiftLeft_add_eq_or_of_lt y.isLt, Nat.shiftLeft_eq]

/-- Settles O1: the slices are `fieldOf_idisar0`, one per field; the number is the concatenation's. -/
theorem registerValueIsTheConcatenation : Obligations.RegisterValueIsTheConcatenation := by
  intro c
  have hslice := fieldOf_idisar0 c
  refine ⟨hslice .rndr, hslice .tlb, hslice .ts, hslice .fhm, hslice .dp, hslice .sm4, hslice .sm3,
    hslice .sha3, hslice .rdm, hslice .res27_24, hslice .atomic, hslice .crc32, hslice .sha2,
    hslice .sha1, hslice .aes, hslice .res3_0, ?_⟩
  simp only [Config.idisar0, toNat_append_eq_add, BitVec.ofNat_eq_ofNat, BitVec.toNat_ofNat]
  omega

/-! ## The checks of a configuration, one equivalence each (R53, R54, R107) -/

theorem mem_all (f : Field) : f ∈ Field.all := by cases f <;> decide

theorem wfValues_iff (v : Word) : wfValues v = true ↔ ∀ f, fieldOf v f ∈ f.defined := by
  simp [wfValues, mem_all]

theorem wfCross_iff (v : Word) :
    wfCross v = true ↔ fieldOf v .sm4 = fieldOf v .sm3
      ∧ (fieldOf v .sha1, fieldOf v .sha2, fieldOf v .sha3) ∈ shaTriples := by
  simp [wfCross]

/-- A statement about every field, written out in the order of R20. -/
theorem forall_field {p : Field → Prop} :
    (∀ f, p f) ↔ p .rndr ∧ p .tlb ∧ p .ts ∧ p .fhm ∧ p .dp ∧ p .sm4 ∧ p .sm3 ∧ p .sha3 ∧ p .rdm
      ∧ p .res27_24 ∧ p .atomic ∧ p .crc32 ∧ p .sha2 ∧ p .sha1 ∧ p .aes ∧ p .res3_0 := by
  constructor
  · intro h
    simp only [h, and_self]
  · rintro ⟨_, _, _, _, _, _, _, _, _, _, _, _, _, _, _, _⟩ f
    cases f <;> assumption

/-- `WF_values`: every parameter is defined, and the reserved nibbles are zero as they always are. -/
theorem passes_wfValues_iff (c : Config) :
    c.passes .wfValues = true ↔
      c.pRndr ∈ [0, 1] ∧ c.pTlb ∈ [0, 1, 2] ∧ c.pTs ∈ [0, 1, 2] ∧ c.pFhm ∈ [0, 1] ∧ c.pDp ∈ [0, 1]
      ∧ c.pSm4 ∈ [0, 1] ∧ c.pSm3 ∈ [0, 1] ∧ c.pSha3 ∈ [0, 1] ∧ c.pRdm ∈ [0, 1] ∧ c.pAtomic ∈ [0, 2, 3]
      ∧ c.pCrc32 ∈ [0, 1] ∧ c.pSha2 ∈ [0, 1, 2] ∧ c.pSha1 ∈ [0, 1] ∧ c.pAes ∈ [0, 1, 2]
      ∧ c.idisar0.extractLsb' 24 4 = 0 ∧ c.idisar0.extractLsb' 0 4 = 0 := by
  have h24 : c.idisar0.extractLsb' 24 4 = 0 := fieldOf_idisar0 c .res27_24
  have h0 : c.idisar0.extractLsb' 0 4 = 0 := fieldOf_idisar0 c .res3_0
  simp only [Config.passes, wfValues_iff, fieldOf_idisar0, forall_field, Config.param, Field.defined,
    h24, h0]
  simp

theorem passes_wfCross_iff (c : Config) :
    c.passes .wfCross = true ↔ c.pSm4 = c.pSm3 ∧ (c.pSha1, c.pSha2, c.pSha3) ∈ shaTriples := by
  simp only [Config.passes, wfCross_iff, fieldOf_idisar0, Config.param]

/-- A feature a field identifies is implemented exactly at the values of its row of R44. -/
theorem isFeatureImplemented_iff {f : Feature} {fld : Field} {vs : List Nibble}
    (h : f.identifiedBy = some (fld, vs)) (c : Config) :
    c.isFeatureImplemented f = true ↔ c.param fld ∈ vs := by
  simp [Config.isFeatureImplemented, h]

theorem isFeatureImplemented_iff_eq (f : Feature) (fld : Field) {v : Nibble}
    (h : f.identifiedBy = some (fld, [v])) (c : Config) :
    c.isFeatureImplemented f = true ↔ c.param fld = v := by
  rw [isFeatureImplemented_iff h, List.mem_singleton]

theorem isFeatureImplemented_iff_or (f : Feature) (fld : Field) {v w : Nibble}
    (h : f.identifiedBy = some (fld, [v, w])) (c : Config) :
    c.isFeatureImplemented f = true ↔ c.param fld = v ∨ c.param fld = w := by
  rw [isFeatureImplemented_iff h, List.mem_pair]

theorem passes_wfFeature_iff (c : Config) :
    c.passes .wfFeature = true ↔
      (c.pSm4 = 1 → c.isFeatureImplemented .sm4 = true)
      ∧ (c.pSm3 = 1 → c.isFeatureImplemented .sm3 = true)
      ∧ (c.pSha3 = 1 → c.isFeatureImplemented .sha3 = true) := by
  simp [Config.passes, Config.wfFeature, and_assoc]

/-- The version sentences of R45 to R52 as `WF_version` has them, `tsFrom8_5` being what the reading of R46
asks of TS from Armv8.5. -/
def VersionSentences (c : Config) (tsFrom8_5 : Prop) : Prop :=
  (c.arch.atLeast8_1 = true → c.pRdm = 1 ∧ c.pAtomic ∈ [2, 3] ∧ c.pCrc32 = 1)
    ∧ (c.arch.atLeast8_4 = true → c.pTlb = 2)
    ∧ (c.arch.is8_4 = true → c.pTs ∈ [1, 2])
    ∧ (c.arch.atLeast8_5 = true → tsFrom8_5)
    ∧ (c.arch.atLeast8_4 = true → c.featFP16 = true → c.pFhm = 1)
    ∧ (c.arch.atLeast8_4 = true → c.featAdvSIMD = true → c.pDp = 1)

/-- The shared lines with one line on TS from Armv8.5 are the version sentences. -/
theorem wfVersionShared_and_iff (c : Config) (ts : Bool) :
    (c.wfVersionShared && implies (c.arch.atLeast .armv8_5) ts) = true
      ↔ VersionSentences c (ts = true) := by
  simp only [Config.wfVersionShared, VersionSentences, ArchTests.atLeast, ArchTests.is, Bool.and_eq_true,
    implies_eq_true, isFeatureImplemented_fp16, isFeatureImplemented_advSimd, beq_iff_eq,
    List.contains_iff_mem, and_imp, and_assoc]
  constructor
  · rintro ⟨h81, htlb, hts, hfhm, hdp, h85⟩
    exact ⟨h81, htlb, hts, h85, hfhm, hdp⟩
  · rintro ⟨h81, htlb, hts, h85, hfhm, hdp⟩
    exact ⟨h81, htlb, hts, hfhm, hdp, h85⟩

theorem wfVersion_iff (c : Config) : c.wfVersion = true ↔ VersionSentences c (c.pTs ∈ [0, 2]) := by
  rw [Config.wfVersion, wfVersionShared_and_iff, List.contains_iff_mem]

theorem wfVersionStrict_iff (c : Config) : c.wfVersionStrict = true ↔ VersionSentences c (c.pTs = 2) := by
  rw [Config.wfVersionStrict, wfVersionShared_and_iff, beq_iff_eq]

theorem wf_iff (c : Config) :
    c.wf = true ↔ c.passes .wfValues = true ∧ c.passes .wfCross = true ∧ c.passes .wfFeature = true
      ∧ c.passes .wfVersion = true := by
  simp only [Config.wf, Bool.and_eq_true, and_assoc]

/-- `WF_feature` holds in every configuration, a feature being read off its field (R44). -/
theorem passes_wfFeature (c : Config) : c.passes .wfFeature = true :=
  (passes_wfFeature_iff c).2 ⟨(isFeatureImplemented_iff_eq .sm4 .sm4 rfl c).2,
    (isFeatureImplemented_iff_eq .sm3 .sm3 rfl c).2, (isFeatureImplemented_iff_eq .sha3 .sha3 rfl c).2⟩

/-- The laws of R54, law by law. -/
theorem lawful_iff (a : ArchTests) :
    a.lawful = true ↔
      (∀ v, a.is v = true → a.atLeast v = true)
      ∧ (a.atLeast .armv9_7 = true → a.atLeast .armv8_5 = true)
      ∧ (a.atLeast .armv8_5 = true → a.atLeast .armv8_4 = true)
      ∧ (a.atLeast .armv8_4 = true → a.atLeast .armv8_1 = true)
      ∧ (a.atLeast .armv8_5 = true → a.is .armv8_4 = false) := by
  simp only [ArchTests.lawful, Bool.and_eq_true, implies_eq_true, Bool.not_eq_true', and_assoc]
  constructor
  · rintro ⟨h81, h84, h85, h97, hlaws⟩
    exact ⟨fun v => by cases v <;> assumption, hlaws⟩
  · rintro ⟨his, hlaws⟩
    exact ⟨his .armv8_1, his .armv8_4, his .armv8_5, his .armv9_7, hlaws⟩

/-- Every entry of the table is a result of the view. -/
theorem rndrView_ofNat (c : Config) (i : Nat) (hi : i < 32) :
    c.rndrView (BitVec.ofNat 4 (i / 2)) (BitVec.ofNat 1 (i % 2)) = c.rndrViewTable[i] := by
  unfold Config.rndrView
  congr 1
  simp only [BitVec.toNat_ofNat]
  omega

theorem passes_rndrViewRange_iff (c : Config) :
    c.passes .rndrViewRange = true ↔ ∀ (p : Nibble) (b : Bit), c.rndrView p b = 0 ∨ c.rndrView p b = 1 := by
  have hdefined : c.passes .rndrViewRange = true ↔ ∀ n ∈ c.rndrViewTable.toList, n = 0 ∨ n = 1 := by
    simp only [Config.passes, Field.defined, List.all_eq_true, List.contains_iff_mem, List.mem_cons,
      List.not_mem_nil, or_false]
  rw [hdefined]
  constructor
  · intro h p b
    exact h _ (Vector.mem_toList_iff.2 (Vector.getElem_mem _))
  · intro h n hn
    obtain ⟨i, hi, rfl⟩ := Vector.getElem_of_mem (Vector.mem_toList_iff.1 hn)
    rw [← rndrView_ofNat c i hi]
    exact h _ _

/-- A statement about every check, written out in their order. -/
theorem forall_check {p : ConfigCheck → Prop} :
    (∀ k, p k) ↔ (p .wfValues ∧ p .wfCross ∧ p .wfFeature ∧ p .wfVersion)
      ∧ p .archLaws ∧ p .rngTrapNeedsEL3 ∧ p .rndrViewRange := by
  constructor
  · intro h
    simp only [h, and_self]
  · rintro ⟨⟨_, _, _, _⟩, _, _, _⟩ k
    cases k <;> assumption

/-- What an accepted configuration is: well formed, lawful and admissible. -/
theorem accepted_iff (c : Config) :
    c.firstFailed = none ↔
      c.wf = true ∧ c.arch.lawful = true ∧ (c.featRNGTRAP = true → c.haveEL3 = true)
      ∧ ∀ (p : Nibble) (b : Bit), c.rndrView p b = 0 ∨ c.rndrView p b = 1 := by
  rw [firstFailed_eq_none, forall_check, ← wf_iff, passes_rndrViewRange_iff]
  simp only [Config.passes, implies_eq_true]

/-- The four checks of R53, the first four of `ConfigCheck.all`. -/
def wfChecks : List ConfigCheck := [.wfValues, .wfCross, .wfFeature, .wfVersion]

theorem exists_failing_wfCheck {c : Config} (h : c.wf = false) : ∃ k ∈ wfChecks, c.passes k = false := by
  simp only [Config.wf, Bool.and_eq_false_iff, or_assoc] at h
  simpa only [wfChecks, List.exists_mem_cons_iff, List.not_mem_nil, false_and, exists_false, or_false] using h

/-- The checks of `WF` come first, so a configuration without `WF` is refused under one of them. -/
theorem firstFailed_of_not_wf {c : Config} (h : c.wf = false) :
    ∃ k ∈ wfChecks, c.firstFailed = some k := by
  have hall : ConfigCheck.all = wfChecks ++ [.archLaws, .rngTrapNeedsEL3, .rndrViewRange] := rfl
  have hsome : (wfChecks.find? fun k => !c.passes k).isSome := by
    simpa using exists_failing_wfCheck h
  obtain ⟨k, hk⟩ := Option.isSome_iff_exists.1 hsome
  refine ⟨k, List.mem_of_find?_eq_some hk, ?_⟩
  rw [Config.firstFailed, hall, List.find?_append, hk, Option.some_or]

theorem finishStep_refused {o : Host.Outcome State Fault Refusal} {r : Refusal} :
    finishStep o = .refused r ↔ o = .refused r := by
  cases o <;> simp [finishStep]

/-- The refusal of an item the decoder rejects is none of a configuration. -/
theorem refuse_ne_configRefused (s : State) (r : Reject) (k : ConfigCheck) :
    s.refuse r ≠ .configRefused k := by
  cases r <;> simp [State.refuse]

/-- A step refuses the configuration exactly when a check fails, under the first that does. -/
theorem step_configRefused_iff {s : State} {k : ConfigCheck} :
    step s = .refused (.configRefused k) ↔ s.config.firstFailed = some k := by
  unfold step
  split
  next k' hk' => simp [hk']
  next hnone =>
    simp only [hnone, reduceCtorEq, iff_false]
    split
    · simp
    · split
      · simp [refuse_ne_configRefused]
      · rw [finishStep_refused]
        exact exec_not_refused _ _ _

/-- Settles O4: each check by its own equivalence; the four come first, so `step` names one of them. -/
theorem wellFormednessChecksSpelledOut : Obligations.WellFormednessChecksSpelledOut := by
  refine ⟨fun c => ⟨passes_wfValues_iff c, passes_wfCross_iff c, passes_wfFeature_iff c,
    passes_wfFeature c, wfVersion_iff c, wfVersionStrict_iff c, wf_iff c⟩, fun s hwf => ?_⟩
  obtain ⟨k, hk, hfirst⟩ := firstFailed_of_not_wf hwf
  exact ⟨k, hk, firstFailed_fails hfirst, step_configRefused_iff.2 hfirst⟩

/-- Settles O5: a step refuses no configuration but the ones that are not accepted. -/
theorem stepRefusesExactlyIllFormedConfigurations :
    Obligations.StepRefusesExactlyIllFormedConfigurations := by
  intro s
  refine ⟨?_, fun k h => firstFailed_fails (step_configRefused_iff.1 h)⟩
  simp only [ne_eq, step_configRefused_iff, ← accepted_iff, Option.eq_none_iff_forall_ne_some]

/-! ## Configurations that are accepted (R54) -/

/-- A configuration with the field values of `v` and the version tests `a`, all else as in `resetConfig`. -/
def configOf (v : Word) (a : ArchTests) : Config := { resetConfig.withFields v with arch := a }

/-- The field values 0x0221111110212120 meet the version sentences of every version, so the configuration is
accepted with any lawful tests. -/
theorem configOf_accepted {a : ArchTests} (h : a.lawful = true) :
    (configOf 0x0221111110212120 a).firstFailed = none := by
  have hreset : (configOf 0x0221111110212120 resetConfig.arch).firstFailed = none := rfl
  have hversion : VersionSentences (configOf 0x0221111110212120 a) ((2 : Nibble) ∈ [0, 2]) :=
    ⟨fun _ => ⟨rfl, (by decide : (2 : Nibble) ∈ [2, 3]), rfl⟩, fun _ => rfl,
      fun _ => (by decide : (2 : Nibble) ∈ [1, 2]), fun _ => by decide, fun _ _ => rfl, fun _ _ => rfl⟩
  refine firstFailed_eq_none.2 fun k => ?_
  have hk := firstFailed_eq_none.1 hreset k
  cases k with
  | wfVersion => exact (wfVersion_iff _).2 hversion
  | archLaws => exact h
  | _ => exact hk

theorem resetConfig_accepted : resetConfig.firstFailed = none := rfl

/-- Settles O9: `archLaws` is a check, and one register value suits every lawful version. -/
theorem versionTestsObeyExactlyTheirLaws : Obligations.VersionTestsObeyExactlyTheirLaws := by
  intro a
  rw [← lawful_iff]
  constructor
  · rintro ⟨c, rfl, hc⟩
    exact firstFailed_eq_none.1 hc .archLaws
  · intro h
    exact ⟨configOf 0x0221111110212120 a, rfl, configOf_accepted h⟩

/-- An accepted configuration obeys the version sentences, TS read literally. -/
theorem accepted_version {c : Config} (h : c.firstFailed = none) :
    VersionSentences c (c.pTs ∈ [0, 2]) :=
  (wfVersion_iff c).1 (firstFailed_eq_none.1 h .wfVersion)

/-- The strict reading of TS is the literal one and more. -/
theorem wfVersion_of_strict {c : Config} (h : c.wfVersionStrict = true) : c.wfVersion = true := by
  obtain ⟨h81, htlb, hts, h85, hfhm, hdp⟩ := (wfVersionStrict_iff c).1 h
  exact (wfVersion_iff c).2 ⟨h81, htlb, hts, fun hv => by simp [h85 hv], hfhm, hdp⟩

/-- Settles O6: the sentences are `WF_version`'s; one configuration for each value that stays permitted. -/
theorem versionsForbidFieldValues : Obligations.VersionsForbidFieldValues := by
  refine ⟨fun c hc => ?_, ?_, ?_, ?_, fun c hstrict => ?_⟩
  · obtain ⟨h81, htlb, hts, h85, hfhm, hdp⟩ := accepted_version hc
    have hfhmDefined : c.pFhm ∈ [0, 1] := accepted_defined hc .fhm
    refine ⟨htlb, fun hv => by simpa using hts hv, fun hv => by simpa using h85 hv, hfhm, ?_, hdp,
      fun hv => (h81 hv).1, fun hv => by simpa using (h81 hv).2.1, fun hv => (h81 hv).2.2⟩
    rintro h2
    rw [h2] at hfhmDefined
    exact absurd hfhmDefined (by decide)
  · exact ⟨configOf 0x0201111110212120 ⟨true, true, true, false, false, false, true, false⟩, rfl, rfl, rfl⟩
  · exact ⟨{ configOf 0x0211111110212120 ⟨true, true, false, false, false, true, false, false⟩ with
      featFP16 := true, featAdvSIMD := true }, rfl, rfl, rfl, rfl, rfl, rfl⟩
  · exact ⟨{ configOf 0x0220111110212120 ⟨true, true, true, true, false, false, false, true⟩ with
      featAdvSIMD := true, featSVEF16F32MM := true }, rfl, rfl, rfl, rfl, rfl⟩
  · obtain ⟨-, -, -, h85, -⟩ := (wfVersionStrict_iff c).1 hstrict
    exact ⟨wfVersion_of_strict hstrict, h85⟩

/-- Settles O7: SM4 is defined and SM3 equals it; value 0 at reset, value 1 in a configuration before
Armv8.1. -/
theorem sm4EqualsSm3 : Obligations.Sm4EqualsSm3 := by
  refine ⟨fun c hc => ?_, ⟨resetConfig, resetConfig_accepted, rfl, rfl⟩,
    ⟨configOf 0x0221111110212120 resetConfig.arch, configOf_accepted rfl, rfl, rfl⟩⟩
  have hsm4 : c.pSm4 ∈ [0, 1] := accepted_defined hc .sm4
  rw [← accepted_sm hc]
  simpa using hsm4

/-! ## The SHA sentences and the legal register values (R41, R42) -/

/-- The five sentences of R41. -/
def ShaSentences (sha1 sha2 sha3 : Nibble) : Prop :=
  (sha1 = 0 → sha3 = 0) ∧ (sha3 = 1 → sha2 = 2) ∧ (sha1 = 0 → sha2 = 0) ∧ (sha2 = 2 → sha3 = 1)
    ∧ (sha2 = 0 → sha1 = 0)

/-- Over the defined values the five sentences leave the three triples of R42. -/
theorem shaSentences_iff : ∀ sha1 ∈ Field.sha1.defined, ∀ sha2 ∈ Field.sha2.defined,
    ∀ sha3 ∈ Field.sha3.defined,
      (ShaSentences sha1 sha2 sha3 ↔ (sha1, sha2, sha3) ∈ shaTriples) := by
  simp [ShaSentences, Field.defined, shaTriples]

theorem mem_shaTriples_iff (sha1 sha2 sha3 : Nibble) :
    (sha1, sha2, sha3) ∈ shaTriples ↔
      (sha1 = 0 ∧ sha2 = 0 ∧ sha3 = 0) ∨ (sha1 = 1 ∧ sha2 = 1 ∧ sha3 = 0)
        ∨ (sha1 = 1 ∧ sha2 = 2 ∧ sha3 = 1) := by
  simp [shaTriples]

/-- A legal triple consists of defined values. -/
theorem defined_of_mem_shaTriples : ∀ t ∈ shaTriples, t.1 ∈ Field.sha1.defined
    ∧ t.2.1 ∈ Field.sha2.defined ∧ t.2.2 ∈ Field.sha3.defined := by
  simp [shaTriples, Field.defined]

/-- Settles O44: an accepted configuration's triple is legal. -/
theorem shaSentencesHold : Obligations.ShaSentencesHold := by
  intro c hc
  exact (shaSentences_iff _ (accepted_defined hc .sha1) _ (accepted_defined hc .sha2) _
    (accepted_defined hc .sha3)).2 (accepted_sha hc)

/-- The cross check of a value of defined fields is R40 with the five sentences. -/
theorem wfCross_iff_sentences {v : Word} (h : wfValues v = true) :
    wfCross v = true ↔ fieldOf v .sm4 = fieldOf v .sm3
      ∧ ShaSentences (fieldOf v .sha1) (fieldOf v .sha2) (fieldOf v .sha3) := by
  have hdefined := (wfValues_iff v).1 h
  rw [wfCross_iff, shaSentences_iff _ (hdefined .sha1) _ (hdefined .sha2) _ (hdefined .sha3)]

/-- What is free in a legal register value, most significant first: RNDR, TLB, TS, FHM, DP, SM3 (SM4 is the
same), the triple of SHA1, SHA2 and SHA3, RDM, Atomic, CRC32, AES. -/
abbrev LegalChoice :=
  Nibble × Nibble × Nibble × Nibble × Nibble × Nibble × (Nibble × Nibble × Nibble)
    × Nibble × Nibble × Nibble × Nibble

/-- The choices R42 counts. -/
def legalChoices : List LegalChoice :=
  Field.rndr.defined ×ˢ Field.tlb.defined ×ˢ Field.ts.defined ×ˢ Field.fhm.defined ×ˢ Field.dp.defined
    ×ˢ Field.sm3.defined ×ˢ shaTriples ×ˢ Field.rdm.defined ×ˢ Field.atomic.defined
    ×ˢ Field.crc32.defined ×ˢ Field.aes.defined

/-- The register value of a choice. -/
def choiceValue : LegalChoice → Word
  | (rndr, tlb, ts, fhm, dp, sm, (sha1, sha2, sha3), rdm, atomic, crc32, aes) =>
    Config.idisar0
      { resetConfig with
        pRndr := rndr, pTlb := tlb, pTs := ts, pFhm := fhm, pDp := dp, pSm4 := sm, pSm3 := sm
        pSha3 := sha3, pRdm := rdm, pAtomic := atomic, pCrc32 := crc32, pSha2 := sha2, pSha1 := sha1
        pAes := aes }

/-- The choice a register value makes. -/
def choiceOf (v : Word) : LegalChoice :=
  (fieldOf v .rndr, fieldOf v .tlb, fieldOf v .ts, fieldOf v .fhm, fieldOf v .dp, fieldOf v .sm3,
    (fieldOf v .sha1, fieldOf v .sha2, fieldOf v .sha3), fieldOf v .rdm, fieldOf v .atomic,
    fieldOf v .crc32, fieldOf v .aes)

theorem choiceOf_choiceValue (x : LegalChoice) : choiceOf (choiceValue x) = x := by
  simp only [choiceOf, choiceValue, fieldOf_idisar0, Config.param]

/-- A value is that of its choice exactly when SM4 is SM3 and the reserved nibbles are zero. -/
theorem choiceValue_choiceOf_iff (v : Word) :
    choiceValue (choiceOf v) = v ↔
      fieldOf v .sm4 = fieldOf v .sm3 ∧ fieldOf v .res27_24 = 0 ∧ fieldOf v .res3_0 = 0 := by
  constructor
  · intro h
    rw [← h]
    simp [choiceOf, choiceValue, Config.param]
  · rintro ⟨hsm, h24, h0⟩
    apply eq_of_fieldOf_eq
    intro f
    simp only [choiceOf, choiceValue, fieldOf_idisar0]
    cases f with
    | sm4 => exact hsm.symm
    | res27_24 => exact h24.symm
    | res3_0 => exact h0.symm
    | _ => rfl

/-- The choice of a value is a counted one exactly when its parts are. -/
theorem choiceOf_mem_iff (v : Word) :
    choiceOf v ∈ legalChoices ↔
      fieldOf v .rndr ∈ Field.rndr.defined ∧ fieldOf v .tlb ∈ Field.tlb.defined
      ∧ fieldOf v .ts ∈ Field.ts.defined ∧ fieldOf v .fhm ∈ Field.fhm.defined
      ∧ fieldOf v .dp ∈ Field.dp.defined ∧ fieldOf v .sm3 ∈ Field.sm3.defined
      ∧ (fieldOf v .sha1, fieldOf v .sha2, fieldOf v .sha3) ∈ shaTriples
      ∧ fieldOf v .rdm ∈ Field.rdm.defined ∧ fieldOf v .atomic ∈ Field.atomic.defined
      ∧ fieldOf v .crc32 ∈ Field.crc32.defined ∧ fieldOf v .aes ∈ Field.aes.defined := by
  simp only [choiceOf, legalChoices, List.mem_product]

/-- A value passes both version-independent checks exactly when it is the value of a counted choice. -/
theorem legal_iff (v : Word) :
    wfValues v = true ∧ wfCross v = true ↔ choiceOf v ∈ legalChoices ∧ choiceValue (choiceOf v) = v := by
  rw [choiceOf_mem_iff, choiceValue_choiceOf_iff, wfValues_iff, wfCross_iff, forall_field]
  constructor
  · rintro ⟨⟨hrndr, htlb, hts, hfhm, hdp, -, hsm3, -, hrdm, h24, hatomic, hcrc32, -, -, haes, h0⟩, hsm, hsha⟩
    exact ⟨⟨hrndr, htlb, hts, hfhm, hdp, hsm3, hsha, hrdm, hatomic, hcrc32, haes⟩, hsm,
      List.mem_singleton.1 h24, List.mem_singleton.1 h0⟩
  · rintro ⟨⟨hrndr, htlb, hts, hfhm, hdp, hsm3, hsha, hrdm, hatomic, hcrc32, haes⟩, hsm, h24, h0⟩
    obtain ⟨hsha1, hsha2, hsha3⟩ := defined_of_mem_shaTriples _ hsha
    exact ⟨⟨hrndr, htlb, hts, hfhm, hdp, hsm ▸ hsm3, hsm3, hsha3, hrdm, List.mem_singleton.2 h24, hatomic,
      hcrc32, hsha2, hsha1, haes, List.mem_singleton.2 h0⟩, hsm, hsha⟩

/-- The legal register values. -/
def legalValues : List Word := legalChoices.map choiceValue

theorem mem_legalValues (v : Word) : v ∈ legalValues ↔ wfValues v = true ∧ wfCross v = true := by
  rw [legal_iff, legalValues, List.mem_map]
  constructor
  · rintro ⟨x, hx, rfl⟩
    rw [choiceOf_choiceValue]
    exact ⟨hx, rfl⟩
  · rintro ⟨hmem, hv⟩
    exact ⟨choiceOf v, hmem, hv⟩

/-- No field lists a defined value twice. -/
theorem defined_nodup (f : Field) : f.defined.Nodup := by cases f <;> decide

theorem legalChoices_nodup : legalChoices.Nodup := by
  have hsha : shaTriples.Nodup := by decide
  have hf := defined_nodup
  exact (hf _).product <| (hf _).product <| (hf _).product <| (hf _).product <| (hf _).product <|
    (hf _).product <| hsha.product <| (hf _).product <| (hf _).product <| (hf _).product (hf _)

/-- Different choices have different values, since a choice is read off its value. -/
theorem legalValues_nodup : legalValues.Nodup :=
  legalChoices_nodup.map (Function.LeftInverse.injective choiceOf_choiceValue)

/-- 15552 is the product of the numbers of choices: 2 * 3 * 3 * 2 * 2 * 2 * 3 * 2 * 3 * 2 * 3. -/
theorem legalValues_length : legalValues.length = 15552 := by
  rw [legalValues, List.length_map]
  simp only [legalChoices, List.length_product]
  rfl

/-- Settles O3: the sentences and the cross check by `shaSentences_iff`, the count by the list of choices. -/
theorem legalShaTriplesAndValueCount : Obligations.LegalShaTriplesAndValueCount := by
  refine ⟨fun a b c ha hb hc => ?_, fun v hv => wfCross_iff_sentences hv,
    legalValues, legalValues_nodup, mem_legalValues, legalValues_length⟩
  exact (shaSentences_iff a ha b hb c hc).trans (mem_shaTriples_iff a b c)

/-! ## The features (R43, R44) -/

/-- Two features that their fields identify at the same time are implemented together. -/
theorem isFeatureImplemented_eq {f g : Feature} {fld gld : Field} {vs ws : List Nibble}
    (hf : f.identifiedBy = some (fld, vs)) (hg : g.identifiedBy = some (gld, ws)) {c : Config}
    (h : c.param fld ∈ vs ↔ c.param gld ∈ ws) : c.isFeatureImplemented f = c.isFeatureImplemented g := by
  rw [Bool.eq_iff_iff, isFeatureImplemented_iff hf, isFeatureImplemented_iff hg, h]

/-- The SHA features, in a legal triple (R43). -/
theorem sha_features_of_mem_shaTriples : ∀ t ∈ shaTriples,
    (t.1 ∈ ([0b0001] : List Nibble) ↔ t.2.1 ∈ ([0b0001, 0b0010] : List Nibble))
      ∧ (t.2.1 ∈ ([0b0010] : List Nibble) ↔ t.2.2 ∈ ([0b0001] : List Nibble)) := by
  simp [shaTriples]

/-- Settles O8: the rows of R44 are `Feature.identifiedBy`; the equalities follow from R40 and the triples. -/
theorem featuresAreReadOffTheFields : Obligations.FeaturesAreReadOffTheFields := by
  refine ⟨fun c => ?_, fun c hc => ?_⟩
  · exact ⟨isFeatureImplemented_iff_eq .rng .rndr rfl c,
      isFeatureImplemented_iff_or .tlbios .tlb rfl c, isFeatureImplemented_iff_eq .tlbirange .tlb rfl c,
      isFeatureImplemented_iff_or .flagM .ts rfl c, isFeatureImplemented_iff_eq .flagM2 .ts rfl c,
      isFeatureImplemented_iff_eq .fhm .fhm rfl c, isFeatureImplemented_iff_eq .dotProd .dp rfl c,
      isFeatureImplemented_iff_eq .sm4 .sm4 rfl c, isFeatureImplemented_iff_eq .sm3 .sm3 rfl c,
      isFeatureImplemented_iff_eq .sha3 .sha3 rfl c, isFeatureImplemented_iff_eq .rdm .rdm rfl c,
      isFeatureImplemented_iff_or .lse .atomic rfl c, isFeatureImplemented_iff_eq .lse128 .atomic rfl c,
      isFeatureImplemented_iff_eq .crc32 .crc32 rfl c,
      isFeatureImplemented_iff_or .sha256 .sha2 rfl c, isFeatureImplemented_iff_eq .sha512 .sha2 rfl c,
      isFeatureImplemented_iff_eq .sha1 .sha1 rfl c,
      isFeatureImplemented_iff_or .aes .aes rfl c, isFeatureImplemented_iff_eq .pmull .aes rfl c,
      (passes_wfFeature_iff c).1 (passes_wfFeature c)⟩
  · obtain ⟨hsha1, hsha512⟩ := sha_features_of_mem_shaTriples _ (accepted_sha hc)
    have hsm : c.param .sm3 = c.param .sm4 := (accepted_sm hc).symm
    exact ⟨isFeatureImplemented_eq rfl rfl (by rw [hsm]),
      isFeatureImplemented_eq (fld := .sha1) (gld := .sha2) rfl rfl hsha1,
      isFeatureImplemented_eq (fld := .sha2) (gld := .sha3) rfl rfl hsha512⟩

/-! ## Reset (R64) -/

/-- Settles O33: reset keeps the configuration it is given and starts with an empty program text. -/
theorem resetKeepsTheRegisterAndTheInvariant : Obligations.ResetKeepsTheRegisterAndTheInvariant := by
  have hinv {c : Config} (hc : c.firstFailed = none) : MachineInv (State.resetOf c) := ⟨hc, rfl⟩
  exact ⟨fun c => by rw [resetOf_config], fun c => hinv, hinv resetConfig_accepted,
    resetOf_readX resetConfig, resetOf_pc resetConfig, rfl⟩

end StateProofs
end Sys2Proof

namespace Sys2Proof
namespace MemoryProofs

open Machine

/-! ## The step, from the item at the pc (R7, R80, R93) -/

/-- The encoder's word decodes to its instruction, for each of the 32 destinations. -/
@[simp] theorem decodeWord_encode (i : Instr) : decodeWord (encode i) = .ok i := by
  cases i with
  | mrsIdAa64isar0El1 t => revert t; decide

/-- An accepted configuration with a decodable item at the pc: the step is the instruction's meaning, then the
next inputs. -/
theorem step_of_decodeItem {s : State} {item : FetchItem} {i : Instr} (hfetch : s.fetch = some item)
    (hdecode : decodeItem item = .ok i) (haccepted : s.config.firstFailed = none) :
    step s = finishStep (exec i s) := by
  simp only [step, haccepted, hfetch, hdecode]

/-- An accepted configuration with nothing at the pc. -/
theorem step_of_fetch_none {s : State} (haccepted : s.config.firstFailed = none) (hfetch : s.fetch = none) :
    step s = .refused (.noInstructionAt s.pc) := by
  simp only [step, haccepted, hfetch]

/-- Settles O26: each clause is what `finishStep` makes of the instruction's outcome. -/
theorem stepRunsTheDecodedInstruction : Obligations.StepRunsTheDecodedInstruction := by
  intro s haccepted
  refine ⟨fun item i hfetch hdecode => ?_, step_of_fetch_none haccepted⟩
  rw [step_of_decodeItem hfetch hdecode haccepted]
  refine ⟨instr_wf i, fun s1 hexec hnil => ?_, fun s1 u rest hexec hcons => ?_, fun f => finishStep_fault.2⟩
  · exact finishStep_next.2 ⟨s1, hexec, (takeNextInputs_of_nil hnil).symm⟩
  · exact finishStep_next.2 ⟨s1, hexec, (takeNextInputs_of_cons hcons).symm⟩

/-! ## A placed word (R80, R88) -/

/-- No instruction writes the schedule of inputs. -/
theorem exec_keeps_laterInputs {i : Instr} {s s' : State} (h : exec i s = .next s') :
    s'.laterInputs = s.laterInputs := by
  cases i with
  | mrsIdAa64isar0El1 t =>
    obtain ⟨-, rfl⟩ := exec_next.1 h
    exact completedRead_laterInputs t s

/-- With no later inputs a step adds nothing to the instruction's outcome. -/
theorem finishStep_exec_of_nil {s : State} (i : Instr) (h : s.laterInputs = []) :
    finishStep (exec i s) = exec i s := by
  cases hexec : exec i s with
  | next s' =>
    have hnil : s'.laterInputs = [] := (exec_keeps_laterInputs hexec).trans h
    exact congrArg Host.Outcome.next (takeNextInputs_of_nil hnil)
  | fault f => rfl
  | refused r => rfl

/-- A placed 32-bit word is what the machine fetches next. -/
theorem fetch_withFetchWord_toNat (s : State) (w : InstrWord) :
    (s.withFetchWord 32 w.toNat).fetch = some (.word w) := by
  rw [fetch_withFetchWord, Nat.mod_eq_of_lt w.isLt, BitVec.ofNat_toNat, BitVec.setWidth_eq]

/-- Settles O43: the placed word is fetched and decodes to its instruction; placing it writes one address of the
program text and no other field. -/
theorem placedWordRunsNext : Obligations.PlacedWordRunsNext := by
  intro s i haccepted hnil
  refine ⟨?_, fun a hne => programRead_write_other s.program _ hne, withFetchWord_wf s 32 _, rfl⟩
  rw [step_of_decodeItem (fetch_withFetchWord_toNat s (encode i)) (decodeWord_encode i) haccepted]
  exact finishStep_exec_of_nil i hnil

end MemoryProofs
end Sys2Proof

namespace Sys2Proof
namespace EncodingProofs

open Machine StateProofs MemoryProofs

/-! ## The word cut at the register number: bits [31:5] and [4:0] (R87, R88) -/

theorem high_append_regNum (w : InstrWord) : w.extractLsb' 5 27 ++ w.extractLsb' 0 5 = w :=
  BitVec.extractLsb'_append_extractLsb' (w := 27) (len := 5)

@[simp] theorem extractLsb'_append_high (c : BitVec 27) (t : RegNum) {start len : Nat} (h : 5 ≤ start) :
    (c ++ t : InstrWord).extractLsb' start len = c.extractLsb' (start - 5) len :=
  BitVec.extractLsb'_append_eq_of_le h

@[simp] theorem extractLsb'_append_regNum (c : BitVec 27) (t : RegNum) :
    (c ++ t : InstrWord).extractLsb' 0 5 = t :=
  BitVec.extractLsb'_append_eq_right

theorem eq_append_iff (w : InstrWord) (c : BitVec 27) (t : RegNum) :
    w = c ++ t ↔ w.extractLsb' 5 27 = c ∧ t = w.extractLsb' 0 5 := by
  constructor
  · rintro rfl
    simp
  · rintro ⟨rfl, rfl⟩
    exact (high_append_regNum w).symm

/-- The mask of R88 keeps bits [31:5]. -/
theorem and_mask (w : InstrWord) : w &&& 0xFFFFFFE0#32 = w.extractLsb' 5 27 ++ 0#5 := by
  have hmask : 0xFFFFFFE0#32 = BitVec.allOnes 27 ++ 0#5 := rfl
  conv_lhs => rw [← high_append_regNum w, hmask]
  rw [BitVec.and_append, BitVec.and_allOnes, BitVec.and_zero]

/-! ## The two accesses to the register's selector (R86, R88, R92) -/

/-- The access to the register in direction `d` with register number `t`. -/
def registerAccess (d : Direction) (t : RegNum) : SysRegTerm :=
  { direction := d, selector := idAa64isar0Point, t := t }

/-- Bits [31:5] of the access's word. -/
def accessPrefix : Direction → BitVec 27
  | .read => 0b110101010011100000000110000#27
  | .write => 0b110101010001100000000110000#27

theorem wordOfTerm_registerAccess (d : Direction) (t : RegNum) :
    wordOfTerm (registerAccess d t) = accessPrefix d ++ t := by
  cases d <;>
  · refine congrArg (fun c : BitVec 27 => (c ++ t : InstrWord)) ?_
    simp only [registerAccess, idAa64isar0Point]
    decide

theorem isSysRegMove_registerAccess (d : Direction) (t : RegNum) :
    isSysRegMove (wordOfTerm (registerAccess d t)) = true := by
  rw [wordOfTerm_registerAccess]
  cases d <;> simp [isSysRegMove, accessPrefix]

theorem termOfWord_registerAccess (d : Direction) (t : RegNum) :
    termOfWord (wordOfTerm (registerAccess d t)) = registerAccess d t := by
  rw [wordOfTerm_registerAccess]
  cases d <;> simp [termOfWord, accessPrefix, registerAccess, idAa64isar0Point]

/-- The fields of a System register move tile its 32 bits, so writing them back gives the word. -/
theorem wordOfTerm_termOfWord {w : InstrWord} (h : isSysRegMove w = true) :
    wordOfTerm (termOfWord w) = w := by
  obtain ⟨hfixed, -⟩ : w.extractLsb' 22 10 = 0b1101010100#10 ∧ w.extractLsb' 20 1 = 1#1 := by
    simpa [isSysRegMove] using h
  have tiles : w.extractLsb' 22 10 ++ w.extractLsb' 21 1 ++ (w.extractLsb' 20 1 ++ w.extractLsb' 19 1)
      ++ w.extractLsb' 16 3 ++ w.extractLsb' 12 4 ++ w.extractLsb' 8 4 ++ w.extractLsb' 5 3
      ++ w.extractLsb' 0 5 = w := by
    simp only [BitVec.extractLsb'_append_extractLsb'_eq_extractLsb', BitVec.extractLsb'_eq_self]
  -- bit 21 is the direction, and either value is written back
  rcases BitVec.eq_zero_or_eq_one (w.extractLsb' 21 1) with hdir | hdir <;>
  · rw [hfixed, hdir] at tiles
    simpa [wordOfTerm, termOfWord, hdir] using tiles

/-- A word is the System register move of an access exactly when it is the access's word. -/
theorem isSysRegMove_and_termOfWord_iff (w : InstrWord) (d : Direction) (t : RegNum) :
    isSysRegMove w = true ∧ termOfWord w = registerAccess d t ↔ w = wordOfTerm (registerAccess d t) := by
  constructor
  · rintro ⟨hmove, hterm⟩
    rw [← hterm, wordOfTerm_termOfWord hmove]
  · rintro rfl
    exact ⟨isSysRegMove_registerAccess d t, termOfWord_registerAccess d t⟩

/-- The access's word as a number: 0xD5380600 + t for the read, 0xD5180600 + t for the write form. -/
theorem eq_wordOfTerm_iff_toNat (w : InstrWord) (d : Direction) (t : RegNum) :
    w = wordOfTerm (registerAccess d t) ↔ w.toNat = (accessPrefix d).toNat * 2 ^ 5 + t.toNat := by
  rw [wordOfTerm_registerAccess, ← toNat_append_eq_add, BitVec.toNat_inj]

theorem eq_encode_mrs_iff_toNat (w : InstrWord) (t : RegNum) :
    w = encode (.mrsIdAa64isar0El1 t) ↔ w.toNat = 0xD5380600 + t.toNat :=
  eq_wordOfTerm_iff_toNat w .read t

/-- Match and mask of R88: under the mask a word is the read's exactly when its bits [31:5] are. -/
theorem eq_encode_mrs_iff_mask (w : InstrWord) (t : RegNum) :
    w = encode (.mrsIdAa64isar0El1 t) ↔ w &&& 0xFFFFFFE0#32 = 0xD5380600#32 ∧ t = w.extractLsb' 0 5 := by
  have hmatch : 0xD5380600#32 = 0b110101010011100000000110000#27 ++ 0#5 := rfl
  rw [encode_mrs, eq_append_iff, and_mask, hmatch, BitVec.append_left_inj]

/-! ## The decoder's answers (R88, R92, R93) -/

theorem decodeTerm_eq_ok_iff {m : SysRegTerm} {i : Instr} : decodeTerm m = .ok i ↔ m = i.term := by
  cases m
  cases i with
  | mrsIdAa64isar0El1 t =>
    simp [decodeTerm_ok, Instr.term, eq_comm (a := t)]

theorem decodeTerm_eq_writeForm_iff {m : SysRegTerm} :
    decodeTerm m = .error .writeFormToReadOnly ↔ ∃ t, m = registerAccess .write t := by
  cases m
  simp [decodeTerm_writeForm, registerAccess]

/-- Every answer but "not in this spec" is the answer to the access of a System register move. -/
theorem decodeWord_eq_iff {w : InstrWord} {r : Except Reject Instr} (hr : r ≠ .error .notInThisSpec) :
    decodeWord w = r ↔ isSysRegMove w = true ∧ decodeTerm (termOfWord w) = r := by
  unfold decodeWord
  split
  next hmove => simp [hmove]
  next hmove => simp [hmove, hr.symm]

theorem decodeWord_eq_ok_iff (w : InstrWord) (i : Instr) : decodeWord w = .ok i ↔ w = encode i := by
  cases i with
  | mrsIdAa64isar0El1 t =>
    rw [decodeWord_eq_iff (by simp), decodeTerm_eq_ok_iff]
    exact isSysRegMove_and_termOfWord_iff w .read t

theorem decodeWord_eq_writeForm_iff (w : InstrWord) :
    decodeWord w = .error .writeFormToReadOnly ↔ ∃ t : RegNum, w.toNat = 0xD5180600 + t.toNat := by
  rw [decodeWord_eq_iff (by simp), decodeTerm_eq_writeForm_iff, ← exists_and_left]
  exact exists_congr fun t =>
    (isSysRegMove_and_termOfWord_iff w .write t).trans (eq_wordOfTerm_iff_toNat w .write t)

/-- A word of neither range: an accepted one would be the read's, and of the two rejections the write
form's is excluded. -/
theorem decodeWord_eq_notInThisSpec {w : InstrWord} (hread : ∀ t : RegNum, w.toNat ≠ 0xD5380600 + t.toNat)
    (hwrite : ∀ t : RegNum, w.toNat ≠ 0xD5180600 + t.toNat) : decodeWord w = .error .notInThisSpec := by
  cases hdecode : decodeWord w with
  | ok i =>
    obtain ⟨t⟩ := i
    exact absurd ((eq_encode_mrs_iff_toNat w t).1 ((decodeWord_eq_ok_iff w _).1 hdecode)) (hread t)
  | error r =>
    rcases decodeWord_error hdecode with rfl | rfl
    · obtain ⟨t, ht⟩ := (decodeWord_eq_writeForm_iff w).1 hdecode
      exact absurd ht (hwrite t)
    · rfl

/-- The table's numbering of a 32-bit word is the word's own number (log entry 29). -/
theorem decodeTableWord_toNat (w : InstrWord) (i : Instr) :
    decodeTableWord 32 w.toNat = some i ↔ decodeWord w = .ok i := by
  have hmod : w.toNat % 2 ^ 32 = w.toNat := Nat.mod_eq_of_lt w.isLt
  have hword : BitVec.ofNat 32 w.toNat = w := by simp
  unfold decodeTableWord
  rw [hmod, if_pos w.isLt, hword]
  cases decodeWord w <;> simp

/-- An accepted configuration with a word the decoder rejects at the pc: the step refuses it by its name. -/
theorem step_of_decodeWord_error {s : State} {w : InstrWord} {r : Reject}
    (haccepted : s.config.firstFailed = none)
    (hfetch : programRead s.program s.pc.toNat = some (.word w)) (hdecode : decodeWord w = .error r) :
    step s = .refused (s.refuse r) := by
  simp only [step, haccepted, State.fetch, hfetch, decodeItem_word, hdecode]

/-! ## Decode against encode, the refused words and the layout (R86, R88, R92, R93) -/

/-- Settles O30: the word of an access and the fields of its word determine each other. -/
theorem decodeAndEncodeAgree : Obligations.DecodeAndEncodeAgree := fun w i =>
  ⟨decodeWord_eq_ok_iff w i, (decodeTableWord_toNat w i).trans (decodeWord_eq_ok_iff w i)⟩

/-- Settles O28: only the accesses in the write direction are rejected as such, and their words are those; a step
refuses what the decoder rejects. -/
theorem writeFormIsRefusedByName : Obligations.WriteFormIsRefusedByName := by
  refine ⟨decodeWord_eq_writeForm_iff, rfl, fun s t haccepted hfetch => ?_⟩
  have hfits : 0xD5180600 + t.toNat < 2 ^ 32 := by omega
  have hdecode := (decodeWord_eq_writeForm_iff (BitVec.ofNat 32 (0xD5180600 + t.toNat))).2
    ⟨t, by rw [BitVec.toNat_ofNat, Nat.mod_eq_of_lt hfits]⟩
  exact step_of_decodeWord_error haccepted hfetch hdecode

/-- Settles O29: the decoder accepts no such word and does not reject it as the write form. -/
theorem everyOtherWordIsRefused : Obligations.EveryOtherWordIsRefused := by
  intro w hread hwrite
  have hdecode := decodeWord_eq_notInThisSpec hread hwrite
  exact ⟨hdecode, rfl, fun s haccepted hfetch => step_of_decodeWord_error haccepted hfetch hdecode⟩

/-- Settles O31: the fields are those of the word's bits [31:5], which the mask keeps. -/
theorem wordLayoutOfTheRead : Obligations.WordLayoutOfTheRead := by
  refine ⟨fun t => ?_, fun w t => (decodeWord_eq_ok_iff w _).trans (eq_encode_mrs_iff_mask w t)⟩
  have hnumber := (eq_encode_mrs_iff_toNat _ t).1 rfl
  rw [hnumber]
  simp [Instr.term, idAa64isar0Point]

/-- Settles O32: each word is the encoder's. -/
theorem writtenOutWordsDecode : Obligations.WrittenOutWordsDecode :=
  ⟨decodeWord_encode (.mrsIdAa64isar0El1 5), decodeWord_encode (.mrsIdAa64isar0El1 30),
    decodeWord_encode (.mrsIdAa64isar0El1 31)⟩

end EncodingProofs
end Sys2Proof

namespace Sys2Proof
namespace ReadProofs

open Machine Claims StateProofs MemoryProofs

/-! ## The access in the statements' own words (R100, R111) -/

@[simp] theorem el3IdTrap_eq_true (s : State) : el3IdTrap s.config s.inputs = true ↔ El3Armed s := by
  simp [el3IdTrap, El3Armed, and_assoc]

@[simp] theorem el2IdTrap_eq_true (s : State) : el2IdTrap s.inputs = true ↔ El2Armed s := by
  simp [el2IdTrap, El2Armed]

@[simp] theorem el2TgeTrap_eq_true (s : State) : el2TgeTrap s.inputs = true ↔ El2TakesEL0 s := by
  simp [el2TgeTrap, El2TakesEL0]

/-- With the register present and the level known, the outcome is that level's branch of the pseudocode. -/
theorem accessOutcome_of_level {s : State} {el : EL} (haa64 : s.config.featAA64 = true)
    (hel : s.inputs.el = el) :
    accessOutcome s.config s.inputs
      = accessByTests el true s.config.featIDST (el2TgeTrap s.inputs) (el3IdTrap s.config s.inputs)
          s.inputs.el3SDDUndefPriority (el2IdTrap s.inputs) s.inputs.el3SDDUndef := by
  rw [accessOutcome_eq, haa64, hel]

/-- The columns of R111 under which the read completes: those of rows 10, 14 and 15. -/
theorem accessByTests_eq_completedRead (el : EL) (aa64 idst e2t t3 prio e2i sdd : Bool) :
    accessByTests el aa64 idst e2t t3 prio e2i sdd = .completedRead ↔
      aa64 = true ∧ (el = .el3 ∨ (el = .el2 ∧ ¬ t3 = true) ∨ (el = .el1 ∧ ¬ t3 = true ∧ ¬ e2i = true)) := by
  cases aa64 with
  | false => simp [accessByTests]
  | true =>
    cases el with
    | el0 => cases idst <;> cases e2t <;> simp [accessByTests]
    | el1 => cases t3 <;> cases prio <;> cases e2i <;> cases sdd <;> simp [accessByTests]
    | el2 => cases t3 <;> cases prio <;> cases sdd <;> simp [accessByTests]
    | el3 => simp [accessByTests]

theorem accessOutcome_eq_completedRead (s : State) :
    accessOutcome s.config s.inputs = .completedRead ↔ ReadCompletes s := by
  rw [accessOutcome_eq, accessByTests_eq_completedRead, el3IdTrap_eq_true, el2IdTrap_eq_true, ReadCompletes]

/-! ## The instruction, one lemma per kind of outcome (R100, R106, R141, R142) -/

theorem exec_of_completedRead {t : RegNum} {s : State}
    (h : accessOutcome s.config s.inputs = .completedRead) :
    exec (.mrsIdAa64isar0El1 t) s = .next (completedRead t s) :=
  exec_next.2 ⟨h, rfl⟩

theorem exec_of_undefined {t : RegNum} {s : State} (h : accessOutcome s.config s.inputs = .undefined) :
    exec (.mrsIdAa64isar0El1 t) s = .fault (.undefined s.pc) :=
  exec_fault.2 (.inl ⟨.inl h, rfl⟩)

theorem exec_of_unimplemented {t : RegNum} {s : State}
    (h : accessOutcome s.config s.inputs = .unimplementedIDRegister) :
    exec (.mrsIdAa64isar0El1 t) s = .fault (.undefined s.pc) :=
  exec_fault.2 (.inl ⟨.inr h, rfl⟩)

theorem exec_of_trap {t : RegNum} {s : State} {target : EL} {number : Nat}
    (h : accessOutcome s.config s.inputs = .systemAccessTrap target number) :
    exec (.mrsIdAa64isar0El1 t) s = .fault (.systemAccessTrap target number s.pc t) :=
  exec_fault.2 (.inr ⟨target, number, h, rfl⟩)

/-- The instruction answers a next state exactly when the read completes, and then that of R106. -/
theorem exec_eq_next_iff {t : RegNum} {s s' : State} :
    exec (.mrsIdAa64isar0El1 t) s = .next s' ↔ ReadCompletes s ∧ s' = completedRead t s := by
  rw [exec_next, accessOutcome_eq_completedRead]

/-- A fault of an instruction names the pc it was raised at. -/
theorem pc_of_exec_fault {i : Instr} {s : State} {f : Fault} (h : exec i s = .fault f) : f.pc = s.pc := by
  rcases exec_fault_pc h with ⟨t, rfl | rfl | rfl⟩ | rfl <;> rfl

/-- An instruction that does not complete faults, since it never refuses. -/
theorem exec_faults_of_not_completes {s : State} (t : RegNum) (h : ¬ ReadCompletes s) :
    ∃ f, exec (.mrsIdAa64isar0El1 t) s = .fault f := by
  cases hexec : exec (.mrsIdAa64isar0El1 t) s with
  | next s' => exact absurd (exec_eq_next_iff.1 hexec).1 h
  | fault f => exact ⟨f, rfl⟩
  | refused r => exact absurd hexec (exec_not_refused _ s r)

/-! ## Level by level (R101 to R105) -/

/-- Settles O14: the first test of the pseudocode decides. -/
theorem absentRegisterIsUndefined : Obligations.AbsentRegisterIsUndefined := by
  intro t s hnot
  exact exec_of_unimplemented (by simp [accessOutcome, hnot])

/-- Settles O15: the EL0 branch of the pseudocode. -/
theorem readAtEL0 : Obligations.ReadAtEL0 := by
  intro t s haa64 hel
  have hbranch := accessOutcome_of_level haa64 hel
  refine ⟨fun hidst htge => exec_of_trap ?_, fun hidst htge => exec_of_trap ?_,
    fun hidst => exec_of_undefined ?_⟩
  · simp [hbranch, accessByTests, hidst, htge, trapNumber]
  · simp [hbranch, accessByTests, hidst, htge, trapNumber]
  · simp [hbranch, accessByTests, hidst]

/-- Settles O16: the EL1 branch of the pseudocode, test by test. -/
theorem readAtEL1 : Obligations.ReadAtEL1 := by
  intro t s haa64 hel
  have hbranch := accessOutcome_of_level haa64 hel
  refine ⟨fun hprio => exec_of_undefined ?_, fun hprio => ⟨fun he2 => exec_of_trap ?_, fun he2 =>
    ⟨fun he3 => ⟨fun hsdd => exec_of_undefined ?_, fun hsdd => exec_of_trap ?_⟩,
      fun he3 => exec_of_completedRead ?_⟩⟩⟩
  · simp [hbranch, accessByTests, hprio]
  · simp [hbranch, accessByTests, hprio, he2, trapNumber]
  · simp [hbranch, accessByTests, he2, he3, hsdd]
  · have hnoprio : s.inputs.el3SDDUndefPriority = false := by simpa [he3] using hprio
    simp [hbranch, accessByTests, hnoprio, he2, he3, hsdd, trapNumber]
  · simp [hbranch, accessByTests, he2, he3]

/-- Settles O17: the EL2 branch of the pseudocode, whose two SDD predicates both answer UNDEFINED. -/
theorem readAtEL2 : Obligations.ReadAtEL2 := by
  intro t s haa64 hel
  have hbranch := accessOutcome_of_level haa64 hel
  refine ⟨?_, ?_, fun he3 => exec_of_completedRead ?_⟩
  · rintro ⟨he3, hsdd⟩
    refine exec_of_undefined ?_
    rcases hsdd with hsdd | hsdd <;> simp [hbranch, accessByTests, he3, hsdd]
  · rintro ⟨he3, hprio, hsdd⟩
    refine exec_of_trap ?_
    simp [hbranch, accessByTests, he3, hprio, hsdd, trapNumber]
  · simp [hbranch, accessByTests, he3]

/-- Settles O18: the EL3 branch of the pseudocode tests nothing. -/
theorem readAtEL3 : Obligations.ReadAtEL3 := fun _ _ haa64 hel =>
  exec_of_completedRead (accessOutcome_of_level haa64 hel)

/-! ## The completed read (R106 to R109) -/

/-- The state of a completed read: the old one, with `X[t]` and the pc written. -/
theorem completedRead_eq (t : RegNum) (s : State) :
    completedRead t s
      = { s with
          x := if h : t.toNat < 31 then s.x.set t.toNat (readValue s.config s.inputs) h else s.x
          pc := s.pc + 4 } := by
  unfold completedRead State.writeX State.advancePc
  split <;> rfl

/-- Settles O10: the next state is the completed read's; any other outcome is a fault, at the pc. -/
theorem completedReadWritesDestinationAndPc : Obligations.CompletedReadWritesDestinationAndPc := by
  intro t s
  refine ⟨fun hcompletes => exec_eq_next_iff.2 ⟨hcompletes, (completedRead_eq t s).symm⟩, fun hnot => ?_⟩
  obtain ⟨f, hfault⟩ := exec_faults_of_not_completes t hnot
  exact ⟨f, hfault, pc_of_exec_fault hfault⟩

/-- Settles O12: the frame of a completed read, field by field. -/
theorem readLeavesEverythingElse : Obligations.ReadLeavesEverythingElse := by
  intro t s s' hexec
  obtain ⟨-, rfl⟩ := exec_eq_next_iff.1 hexec
  refine ⟨fun i hi => ?_, completedRead_inputs t s, completedRead_laterInputs t s, completedRead_config t s,
    completedRead_program t s, fun a => by rw [completedRead_program]⟩
  rw [completedRead_readX, if_neg hi]

/-! ## The value of a read (R107) -/

theorem rndrAsRead_of_trap {c : Config} (h : c.featRNGTRAP = true) (u : Inputs) :
    rndrAsRead c u = c.rndrView c.pRndr u.scrEl3.trndr := by
  simp [rndrAsRead, h]

theorem rndrAsRead_of_no_trap {c : Config} (h : c.featRNGTRAP = false) (u : Inputs) :
    rndrAsRead c u = c.pRndr := by
  simp [rndrAsRead, h]

/-- A read value is the register of a configuration whose RNDR parameter is the nibble as read. -/
theorem readValue_eq_idisar0 (c : Config) (u : Inputs) :
    readValue c u = Config.idisar0 { c with pRndr := rndrAsRead c u } := by
  apply eq_of_fieldOf_eq
  intro f
  rw [fieldOf_readValue, fieldOf_idisar0]
  cases f <;> rfl

/-- Without `FEAT_RNG_TRAP` a read returns the register. -/
theorem readValue_of_no_trap {c : Config} (h : c.featRNGTRAP = false) (u : Inputs) :
    readValue c u = c.idisar0 := by
  rw [readValue_eq_idisar0, rndrAsRead_of_no_trap h]

/-- Of its inputs a read value looks at `SCR_EL3.TRNDR` alone, and only under `FEAT_RNG_TRAP`. -/
theorem readValue_congr {c : Config} {u v : Inputs}
    (h : c.featRNGTRAP = true → u.scrEl3.trndr = v.scrEl3.trndr) : readValue c u = readValue c v := by
  cases htrap : c.featRNGTRAP with
  | false => rw [readValue_of_no_trap htrap, readValue_of_no_trap htrap]
  | true =>
    rw [readValue_eq_idisar0, readValue_eq_idisar0, rndrAsRead_of_trap htrap, rndrAsRead_of_trap htrap,
      h htrap]

/-- What the destination register holds after a completed read. -/
theorem readX_of_exec_next {t : RegNum} {i : Fin 31} {s s' : State}
    (hexec : exec (.mrsIdAa64isar0El1 t) s = .next s') (hi : i.val = t.toNat) :
    s'.readX i = readValue s.config s.inputs := by
  obtain ⟨-, rfl⟩ := exec_eq_next_iff.1 hexec
  rw [completedRead_readX, if_pos hi]

/-- A configuration that is not accepted is refused. -/
theorem step_refuses_of_not_accepted {s : State} (h : s.config.firstFailed ≠ none) :
    ∃ k, step s = .refused (.configRefused k) := by
  obtain ⟨k, hk⟩ := Option.ne_none_iff_exists'.1 h
  exact ⟨k, step_configRefused_iff.2 hk⟩

/-- Settles O11: the destination holds the read value, whose two parts have a lemma each. -/
theorem readReturnsTheRegisterBits : Obligations.ReadReturnsTheRegisterBits := by
  refine ⟨fun t i s hcompletes hi => ⟨completedRead t s, exec_eq_next_iff.2 ⟨hcompletes, rfl⟩, ?_⟩,
    fun s htrap hnoEL3 => step_refuses_of_not_accepted fun haccepted => ?_⟩
  · rw [completedRead_readX, if_pos hi, readValue_high]
    refine ⟨readValue_low _ _, fun htrap => rndrAsRead_of_trap htrap _, fun htrap =>
      ⟨rndrAsRead_of_no_trap htrap _, readValue_of_no_trap htrap _⟩, fun haccepted => ?_⟩
    simpa [Field.defined] using accepted_rndrAsRead haccepted s.inputs
  · obtain ⟨-, -, hneeds, -⟩ := (accepted_iff s.config).1 haccepted
    simp [hneeds htrap] at hnoEL3

/-! ## The bounds of a read value (R112 items 7 and 8) -/

/-- Every field of a read value holds a defined value. -/
theorem accepted_fieldOf_readValue {c : Config} (h : c.firstFailed = none) (u : Inputs) (f : Field) :
    fieldOf (readValue c u) f ∈ f.defined := by
  rw [fieldOf_readValue]
  split
  next hf => exact hf ▸ accepted_rndrAsRead h u
  next => exact accepted_defined h f

/-- A configuration whose every field holds its largest defined value. -/
def largestConfig : Config := resetConfig.withFields 0x1221111110312120

theorem largestConfig_idisar0 : largestConfig.idisar0 = 0x1221111110312120#64 := rfl

theorem le_largest_of_mem_defined (f : Field) :
    ∀ n ∈ f.defined, n.toNat ≤ (largestConfig.param f).toNat := by
  cases f <;> decide

theorem le_three_of_mem_defined (f : Field) : ∀ n ∈ f.defined, n.toNat ≤ 3 := by
  cases f <;> decide

/-- The register as a number grows with each of its nibbles (R22). -/
theorem idisar0_mono {c d : Config} (h : ∀ f, (c.param f).toNat ≤ (d.param f).toNat) :
    c.idisar0.toNat ≤ d.idisar0.toNat := by
  obtain ⟨-, -, -, -, -, -, -, -, -, -, -, -, -, -, -, -, hc⟩ := registerValueIsTheConcatenation c
  obtain ⟨-, -, -, -, -, -, -, -, -, -, -, -, -, -, -, -, hd⟩ := registerValueIsTheConcatenation d
  simp only [forall_field, Config.param] at h
  omega

/-- A register with defined values only is at most the largest one. -/
theorem idisar0_le_largest {c : Config} (h : ∀ f, c.param f ∈ f.defined) :
    c.idisar0.toNat ≤ 0x1221111110312120 := by
  have hle := idisar0_mono (d := largestConfig) fun f => le_largest_of_mem_defined f _ (h f)
  rwa [largestConfig_idisar0] at hle

/-- Settles O39: every field of the value is a defined one, which bounds the nibbles and with them the number. -/
theorem readValueIsBounded : Obligations.ReadValueIsBounded := by
  intro t i s s' haccepted hexec hi
  rw [readX_of_exec_next hexec hi]
  have hdefined := accepted_fieldOf_readValue haccepted s.inputs
  refine ⟨List.mem_singleton.1 (hdefined .res27_24), List.mem_singleton.1 (hdefined .res3_0),
    fun f => le_three_of_mem_defined f _ (hdefined f), ?_⟩
  rw [readValue_eq_idisar0] at hdefined ⊢
  exact idisar0_le_largest fun f => fieldOf_idisar0 _ f ▸ hdefined f

/-! ## The outcome table (R111) -/

/-- A row applies, as a function of the columns of the table. -/
def appliesTo (el : EL) (aa64 idst e2t t3 prio e2i sdd : Bool) (r : OutcomeRow) : Bool :=
  (r.aa64 == aa64) && cellMatches r.el el && cellMatches r.idst idst && cellMatches r.e2t e2t
    && cellMatches r.t3 t3 && cellMatches r.prio prio && cellMatches r.e2i e2i && cellMatches r.sdd sdd

theorem applies_eq (r : OutcomeRow) (c : Config) (u : Inputs) :
    r.applies c u
      = appliesTo u.el c.featAA64 c.featIDST (el2TgeTrap u) (el3IdTrap c u) u.el3SDDUndefPriority
          (el2IdTrap u) u.el3SDDUndef r := by
  simp only [OutcomeRow.applies, appliesTo, isFeatureImplemented_aa64, isFeatureImplemented_idst]

/-- The rows that apply are one, with the outcome of the pseudocode: by the columns each level looks at. -/
theorem outcomes_of_applying_rows (el : EL) (aa64 idst e2t t3 prio e2i sdd : Bool) :
    (outcomeTable.filter (appliesTo el aa64 idst e2t t3 prio e2i sdd)).map (·.outcome)
      = [accessByTests el aa64 idst e2t t3 prio e2i sdd] := by
  cases aa64 with
  | false => rfl
  | true =>
    cases el with
    | el0 => cases idst <;> cases e2t <;> rfl
    | el1 => cases t3 <;> cases prio <;> cases e2i <;> cases sdd <;> rfl
    | el2 => cases t3 <;> cases prio <;> cases sdd <;> rfl
    | el3 => rfl

/-- Exactly one row applies, and its outcome is the pseudocode's. -/
theorem exists_only_row (c : Config) (u : Inputs) :
    ∃ r, outcomeTable.filter (fun r => r.applies c u) = [r] ∧ r.outcome = accessOutcome c u := by
  simp only [applies_eq, accessOutcome_eq]
  exact List.map_eq_singleton_iff.1 (outcomes_of_applying_rows ..)

/-- A row that applies has the outcome of the pseudocode. -/
theorem outcome_of_applies {c : Config} {u : Inputs} {r : OutcomeRow} (hmem : r ∈ outcomeTable)
    (happlies : r.applies c u = true) : r.outcome = accessOutcome c u := by
  obtain ⟨r', hfilter, houtcome⟩ := exists_only_row c u
  have hr : r ∈ outcomeTable.filter (fun r => r.applies c u) := List.mem_filter.2 ⟨hmem, happlies⟩
  rw [hfilter, List.mem_singleton] at hr
  rw [hr, houtcome]

/-- Settles O19: one row applies, its outcome is the pseudocode's, and the pseudocode's is the machine's. -/
theorem outcomeTableIsThePseudocode : Obligations.OutcomeTableIsThePseudocode := by
  refine ⟨exists_only_row, fun t s r hmem happlies => ?_⟩
  have houtcome := outcome_of_applies hmem happlies
  cases hr : r.outcome <;> rw [hr] at houtcome
  case completedRead => exact exec_of_completedRead houtcome.symm
  case undefined => exact exec_of_undefined houtcome.symm
  case systemAccessTrap target number => exact exec_of_trap houtcome.symm
  case unimplementedIDRegister => exact exec_of_unimplemented houtcome.symm

/-! ## Traps go upward (R112 items 4 and 5, R142, R150) -/

/-- An outcome that is a trap targets a level above `el`, with the one number. -/
def TrapsAbove (el : EL) : AccessOutcome → Prop
  | .systemAccessTrap target number => level el < level target ∧ number = trapNumber
  | _ => True

theorem trapsAbove_accessByTests (el : EL) (aa64 idst e2t t3 prio e2i sdd : Bool) :
    TrapsAbove el (accessByTests el aa64 idst e2t t3 prio e2i sdd) := by
  cases aa64 with
  | false => trivial
  | true =>
    cases el with
    | el0 => cases idst <;> cases e2t <;> simp [accessByTests, TrapsAbove, level]
    | el1 => cases t3 <;> cases prio <;> cases e2i <;> cases sdd <;> simp [accessByTests, TrapsAbove, level]
    | el2 => cases t3 <;> cases prio <;> cases sdd <;> simp [accessByTests, TrapsAbove, level]
    | el3 => trivial

/-- A trap of the pseudocode targets a higher level, with the one number. -/
theorem accessOutcome_trap {c : Config} {u : Inputs} {target : EL} {number : Nat}
    (h : accessOutcome c u = .systemAccessTrap target number) :
    level u.el < level target ∧ number = trapNumber := by
  rw [accessOutcome_eq] at h
  have habove := trapsAbove_accessByTests u.el c.featAA64 c.featIDST (el2TgeTrap u) (el3IdTrap c u)
    u.el3SDDUndefPriority (el2IdTrap u) u.el3SDDUndef
  rwa [h] at habove

/-- No level is above EL3. -/
theorem ne_el3_of_level_lt {el target : EL} (h : level el < level target) : el ≠ .el3 := by
  rintro rfl
  cases target <;> simp [level] at h

/-- Settles O22: the fault is the instruction's, and its target and number are the pseudocode's. -/
theorem trapsGoStrictlyUpward : Obligations.TrapsGoStrictlyUpward := by
  intro s target number pc t hstep
  obtain ⟨-, -, ⟨t'⟩, -, -, hexec⟩ := step_fault hstep
  rcases exec_fault.1 hexec with ⟨-, hf⟩ | ⟨target', number', houtcome, hf⟩
  · cases hf
  · cases hf
    obtain ⟨hlevel, hnumber⟩ := accessOutcome_trap houtcome
    exact ⟨hlevel, hnumber, rfl, ne_el3_of_level_lt hlevel⟩

/-! ## Inputs the access does not read (R101 to R105, R107, decision D25) -/

/-- A conjunction reads its second operand only where the first is true. -/
theorem and_eq_and_of_read {a a' b b' : Bool} (ha : a = a') (hb : a = true → b = b') :
    (a && b) = (a' && b') := by
  subst ha
  cases a with
  | false => rfl
  | true => exact hb rfl

theorem el2TgeTrap_congr {u v : Inputs} (henabled : u.el2Enabled = v.el2Enabled)
    (htge : u.el2Enabled = true → u.hcrEl2.tge = v.hcrEl2.tge) : el2TgeTrap u = el2TgeTrap v :=
  and_eq_and_of_read henabled fun h => by rw [htge h]

theorem el2IdTrap_congr {u v : Inputs} (henabled : u.el2Enabled = v.el2Enabled)
    (htid3 : u.el2Enabled = true → u.hcrEl2.tid3 = v.hcrEl2.tid3) : el2IdTrap u = el2IdTrap v :=
  and_eq_and_of_read henabled fun h => by rw [htid3 h]

theorem el3IdTrap_congr {c : Config} {u v : Inputs}
    (htid3 : c.haveEL3 = true → c.featIDTE3 = true → u.scrEl3.tid3 = v.scrEl3.tid3) :
    el3IdTrap c u = el3IdTrap c v := by
  refine and_eq_and_of_read rfl fun h => ?_
  rw [isFeatureImplemented_idte3, Bool.and_eq_true] at h
  rw [htid3 h.1 h.2]

/-- Whichever of its two operands decides the priority test, the other is not read. -/
theorem priorityTest_congr {u v : Inputs} (h : PriorityTestAgrees u v) :
    (u.el3SDDUndefPriority && u.scrEl3.tid3 == 1#1) = (v.el3SDDUndefPriority && v.scrEl3.tid3 == 1#1) := by
  rcases h with ⟨hprio, htid3⟩ | ⟨htid3, hprio⟩
  · exact and_eq_and_of_read hprio fun h => by rw [htid3 h]
  · rw [Bool.and_comm, Bool.and_comm v.el3SDDUndefPriority]
    exact and_eq_and_of_read (by rw [htid3]) fun h => hprio (beq_iff_eq.1 h)

theorem el3IdTrapPriority_congr {c : Config} {u v : Inputs}
    (h : c.haveEL3 = true → c.featIDTE3 = true → PriorityTestAgrees u v) :
    el3IdTrapPriority c u = el3IdTrapPriority c v := by
  have hsplit (w : Inputs) : el3IdTrapPriority c w
      = ((c.haveEL3 && c.featIDTE3) && (w.el3SDDUndefPriority && w.scrEl3.tid3 == 1#1)) := by
    simp only [el3IdTrapPriority, isFeatureImplemented_idte3, Bool.and_assoc, Bool.and_left_comm]
  rw [hsplit, hsplit]
  refine and_eq_and_of_read rfl fun hfeatures => priorityTest_congr ?_
  rw [Bool.and_eq_true] at hfeatures
  exact h hfeatures.1 hfeatures.2

theorem el3IdTrapPriority_eq_true (s : State) :
    el3IdTrapPriority s.config s.inputs = true ↔ El3Armed s ∧ s.inputs.el3SDDUndefPriority = true := by
  rw [el3IdTrapPriority_eq, Bool.and_eq_true, el3IdTrap_eq_true]

/-- The last tests at EL1 and EL2: the EL3 control, and `EL3SDDUndef()` only where it is armed. -/
def el3Tests (c : Config) (u : Inputs) : AccessOutcome :=
  if el3IdTrap c u then if u.el3SDDUndef then .undefined else .systemAccessTrap .el3 trapNumber
  else .completedRead

theorem el3Tests_congr {s : State} {v : Inputs}
    (h : s.config.haveEL3 = true → s.config.featIDTE3 = true →
      s.inputs.scrEl3.tid3 = v.scrEl3.tid3
        ∧ (s.inputs.scrEl3.tid3 = 1#1 → s.inputs.el3SDDUndef = v.el3SDDUndef)) :
    el3Tests s.config s.inputs = el3Tests s.config v := by
  unfold el3Tests
  rw [← el3IdTrap_congr fun h1 h2 => (h h1 h2).1]
  split
  next harmed =>
    obtain ⟨hhave, hidte3, htid3⟩ := (el3IdTrap_eq_true s).1 harmed
    rw [(h hhave hidte3).2 htid3]
  next => rfl

/-- The outcome is the same under inputs that agree where the access reads them. -/
theorem accessOutcome_congr {s : State} {v : Inputs} (h : ConsultedAgree s v) :
    accessOutcome s.config s.inputs = accessOutcome s.config v := by
  cases haa64 : s.config.featAA64 with
  | false => simp [accessOutcome, haa64]
  | true =>
    obtain ⟨hel, htge, hprio, he2, he3, -⟩ := h haa64
    simp only [accessOutcome, isFeatureImplemented_aa64, isFeatureImplemented_idst, haa64, ← hel]
    cases hlevel : s.inputs.el with
    | el0 =>
      cases hidst : s.config.featIDST with
      | false => rfl
      | true =>
        obtain ⟨henabled, htge⟩ := htge hlevel hidst
        rw [el2TgeTrap_congr henabled htge]
    | el1 =>
      rw [← el3IdTrapPriority_congr (hprio (.inl hlevel))]
      by_cases hp : el3IdTrapPriority s.config s.inputs = true
      · simp only [hp, if_true]
      · have hnoprio := (el3IdTrapPriority_eq_true s).not.1 hp
        obtain ⟨henabled, htid3⟩ := he2 hlevel hnoprio
        rw [← el2IdTrap_congr henabled htid3]
        by_cases hi : el2IdTrap s.inputs = true
        · simp only [hi, if_true]
        · have htests := el3Tests_congr (he3 (.inl ⟨hlevel, (el2IdTrap_eq_true s).not.1 hi⟩) hnoprio)
          simp only [hi, hp]
          exact htests
    | el2 =>
      rw [← el3IdTrapPriority_congr (hprio (.inr hlevel))]
      by_cases hp : el3IdTrapPriority s.config s.inputs = true
      · simp only [hp, if_true]
      · have htests := el3Tests_congr (he3 (.inr hlevel) ((el3IdTrapPriority_eq_true s).not.1 hp))
        simp only [hp]
        exact htests
    | el3 => rfl

/-- The inputs reach a completed read's registers and pc through the read value alone. -/
theorem sameOutcome_completedRead (t : RegNum) {s : State} {v : Inputs}
    (h : readValue s.config s.inputs = readValue s.config v) :
    SameOutcome (.next (completedRead t s)) (.next (completedRead t { s with inputs := v })) := by
  simp only [SameOutcome, completedRead_eq, h, and_self]

/-- Settles O23: the outcome is the same, and where the read completes so is the value. -/
theorem unconsultedInputsDoNotMatter : Obligations.UnconsultedInputsDoNotMatter := by
  intro t s v hagree
  have hsame := accessOutcome_congr hagree
  cases houtcome : accessOutcome s.config s.inputs with
  | completedRead =>
    have hcompletes := (accessOutcome_eq_completedRead s).1 houtcome
    obtain ⟨-, -, -, -, -, htrndr⟩ := hagree hcompletes.1
    rw [exec_of_completedRead houtcome, exec_of_completedRead (hsame.symm.trans houtcome)]
    exact sameOutcome_completedRead t (readValue_congr (htrndr hcompletes))
  | undefined =>
    rw [exec_of_undefined houtcome, exec_of_undefined (hsame.symm.trans houtcome), SameOutcome]
  | systemAccessTrap target number =>
    rw [exec_of_trap houtcome, exec_of_trap (hsame.symm.trans houtcome), SameOutcome]
  | unimplementedIDRegister =>
    rw [exec_of_unimplemented houtcome, exec_of_unimplemented (hsame.symm.trans houtcome), SameOutcome]

/-! ## Reads along a run (R74, R106, R107, R109, R112) -/

/-- Settles O36: each step leaves a register or puts a read value in it, under the configuration of the start. -/
theorem registersHoldOnlyReadValues : Obligations.RegistersHoldOnlyReadValues := by
  intro k s i
  have hrun := runFrom_induction
    (P := fun x => x.config = s.config ∧ (x.readX i = s.readX i ∨ ReturnedByARead s.config (x.readX i)))
    ?_ k s ⟨rfl, .inl rfl⟩
  · exact hrun.2
  · rintro x x' hstep ⟨hconfig, hx⟩
    obtain ⟨hkept, -⟩ := step_keeps_constants hstep
    refine ⟨hkept.trans hconfig, ?_⟩
    rcases step_readX hstep i with hsame | hread
    · rwa [hsame]
    · exact .inr (hconfig ▸ hread)

/-- `j` instructions after the next one is `j + 1` after this one. -/
theorem pc_add_four_mul (pc : Word) (j : Nat) :
    pc + 4 + BitVec.ofNat 64 (4 * j) = pc + BitVec.ofNat 64 (4 * (j + 1)) := by
  rw [Nat.mul_succ, Nat.add_comm, BitVec.ofNat_add, BitVec.add_assoc]
  rfl

/-- Settles O37, by induction on the number of steps. -/
theorem pcMovesFourPerStep : Obligations.PcMovesFourPerStep := by
  intro k
  induction k with
  | zero =>
    rintro s _ ⟨⟩
    simp
  | succ k ih =>
    intro s s' hreaches
    obtain ⟨s1, hstep, hrest⟩ := reaches_succ.1 hreaches
    obtain ⟨-, -, hpc, -⟩ := step_next_fields hstep
    rw [ih s1 s' hrest, hpc, pc_add_four_mul]

/-- A run without a stop ends in the configuration it starts in. -/
theorem reaches_config {k : Nat} {s s' : State} (h : Reaches k s s') : s'.config = s.config := by
  obtain ⟨hconfig, -⟩ := runFrom_keeps_constants k s
  rwa [show runFrom k s = _ from h] at hconfig

/-- Settles O38: both reads return the read value of the one configuration. -/
theorem readsOfOneRunAgree : Obligations.ReadsOfOneRunAgree := by
  intro k s s' s1 s2 t t' i j hreaches hfirst hsecond hi hj
  rw [readX_of_exec_next hfirst hi, readX_of_exec_next hsecond hj, reaches_config hreaches]
  refine ⟨by rw [readValue_low, readValue_low], fun hnotrap => ?_, fun htrndr => ?_⟩
  · rw [readValue_of_no_trap hnotrap, readValue_of_no_trap hnotrap]
  · exact readValue_congr fun _ => htrndr

/-- The level is EL3 now and in all later inputs. -/
def StaysAtEL3 (s : State) : Prop := s.inputs.el = .el3 ∧ ∀ u ∈ s.laterInputs, u.el = .el3

theorem takeNextInputs_staysAtEL3 {s : State} (h : StaysAtEL3 s) : StaysAtEL3 s.takeNextInputs := by
  obtain ⟨hnow, hlater⟩ := h
  cases hschedule : s.laterInputs with
  | nil => exact (takeNextInputs_of_nil hschedule).symm ▸ ⟨hnow, hlater⟩
  | cons u rest =>
    rw [takeNextInputs_of_cons hschedule]
    rw [hschedule, List.forall_mem_cons] at hlater
    exact hlater

theorem completedRead_staysAtEL3 (t : RegNum) {s : State} (h : StaysAtEL3 s) :
    StaysAtEL3 (completedRead t s) := by
  rwa [StaysAtEL3, completedRead_inputs, completedRead_laterInputs]

/-- One step of a run at EL3: the read at the pc completes, and the run stays at EL3. -/
theorem step_at_EL3 {s : State} {w : InstrWord} {i : Instr} (haccepted : s.config.firstFailed = none)
    (haa64 : s.config.featAA64 = true) (hEL3 : StaysAtEL3 s) (hfetch : s.fetch = some (.word w))
    (hdecode : decodeWord w = .ok i) : ∃ s', step s = .next s' ∧ StaysAtEL3 s' := by
  cases i with
  | mrsIdAa64isar0El1 t =>
    refine ⟨(completedRead t s).takeNextInputs, ?_,
      takeNextInputs_staysAtEL3 (completedRead_staysAtEL3 t hEL3)⟩
    rw [step_of_decodeItem hfetch hdecode haccepted]
    exact finishStep_next.2 ⟨_, readAtEL3 t s haa64 hEL3.1, rfl⟩

theorem safeRun_succ_of_step {k : Nat} {s s' : State} (h : step s = .next s') :
    safeRun (k + 1) s = safeRun k s' := by
  simp only [safeRun, runFrom, h]

/-- Settles O42, by induction on the number of steps: the first read completes, and the rest of the program lies
from the next pc on. -/
theorem readsAtEL3RunOn : Obligations.ReadsAtEL3RunOn := by
  intro k
  induction k with
  | zero => intros; rfl
  | succ k ih =>
    intro s haccepted haa64 hnow hlater hprogram
    obtain ⟨w, i, hfetch, hdecode⟩ := hprogram 0 k.succ_pos
    rw [Nat.mul_zero, BitVec.add_zero] at hfetch
    obtain ⟨s', hstep, hnow', hlater'⟩ := step_at_EL3 haccepted haa64 ⟨hnow, hlater⟩ hfetch hdecode
    obtain ⟨hconfig, hkept, hpc, -⟩ := step_next_fields hstep
    rw [safeRun_succ_of_step hstep]
    refine ih s' (hconfig ▸ haccepted) (hconfig ▸ haa64) hnow' hlater' fun j hj => ?_
    rw [hkept, hpc, pc_add_four_mul]
    exact hprogram (j + 1) (Nat.succ_lt_succ hj)

end ReadProofs
end Sys2Proof

namespace Sys2Proof
namespace IdentifiedProofs

open Machine StateProofs ReadProofs

/-! ## What a value reports: one field, at the values of the name's row (R120) -/

theorem reports_iff (v : Word) (n : Named) : reports v n = true ↔ fieldOf v n.field ∈ n.reportedAt := by
  rw [reports, List.contains_iff_mem]

/-- The names of a row are reported exactly at the row's values of the row's field. -/
theorem reports_row {ns : List Named} {f : Field} {vs : List Nibble}
    (hrow : ∀ n ∈ ns, n.field = f ∧ n.reportedAt = vs) (v : Word) :
    ∀ n ∈ ns, (reports v n = true ↔ fieldOf v f ∈ vs) := by
  intro n hn
  obtain ⟨hfield, hvalues⟩ := hrow n hn
  rw [reports_iff, hfield, hvalues]

theorem reports_row_eq {ns : List Named} (f : Field) {a : Nibble}
    (hrow : ∀ n ∈ ns, n.field = f ∧ n.reportedAt = [a]) (v : Word) :
    ∀ n ∈ ns, (reports v n = true ↔ fieldOf v f = a) := fun n hn =>
  (reports_row hrow v n hn).trans List.mem_singleton

theorem reports_row_or {ns : List Named} (f : Field) {a b : Nibble}
    (hrow : ∀ n ∈ ns, n.field = f ∧ n.reportedAt = [a, b]) (v : Word) :
    ∀ n ∈ ns, (reports v n = true ↔ fieldOf v f = a ∨ fieldOf v f = b) := fun n hn =>
  (reports_row hrow v n hn).trans List.mem_pair

/-- Settles O40: row by row, a row being a field with one value or with two. -/
theorem reportsIsTheTable : Obligations.ReportsIsTheTable := fun v =>
  ⟨reports_row_eq .rndr (by decide) v,
    reports_row_or .tlb (ns := [.outerShareableTlbMaintenance]) (by decide) v _ (List.mem_singleton_self _),
    reports_row_eq .tlb (ns := [.tlbRangeMaintenance]) (by decide) v _ (List.mem_singleton_self _),
    reports_row_or .ts (by decide) v, reports_row_eq .ts (by decide) v,
    reports_row_eq .fhm (by decide) v, reports_row_eq .dp (by decide) v,
    reports_row_eq .sm4 (by decide) v, reports_row_eq .sm3 (by decide) v,
    reports_row_eq .sha3 (by decide) v, reports_row_eq .rdm (by decide) v,
    reports_row_or .atomic (by decide) v, reports_row_eq .atomic (by decide) v,
    reports_row_eq .crc32 (by decide) v,
    reports_row_or .sha2 (by decide) v, reports_row_eq .sha2 (by decide) v,
    reports_row_eq .sha1 (by decide) v,
    reports_row_or .aes (by decide) v, reports_row_eq .aes (by decide) v⟩

/-! ## A named instruction in the program text (R121) -/

/-- An accepted configuration with an item the decoder rejects at the pc: the step refuses it by its name. -/
theorem step_of_decodeItem_error {s : State} {item : FetchItem} {r : Reject}
    (haccepted : s.config.firstFailed = none) (hfetch : s.fetch = some item)
    (hdecode : decodeItem item = .error r) : step s = .refused (s.refuse r) := by
  simp only [step, haccepted, hfetch, hdecode]

/-- Settles O27: a name is rejected by its name, whatever the field values, and a step refuses what the decoder
rejects. -/
theorem namedInstructionsAreRefused : Obligations.NamedInstructionsAreRefused := fun n =>
  ⟨decodeItem_named n, rfl, fun _ haccepted hfetch =>
    step_of_decodeItem_error haccepted hfetch (decodeItem_named n)⟩

/-! ## What a read value reports (R107, R122) -/

/-- Only the two random number registers are reported by the RNDR field. -/
theorem field_eq_rndr_iff (n : Named) : n.field = .rndr ↔ n = .rndr ∨ n = .rndrrs := by
  cases n <;> decide

/-- A name that another field reports: a read value reports it as the register does. -/
theorem reports_readValue_of_field_ne {n : Named} (h : n.field ≠ .rndr) (c : Config) (u : Inputs) :
    reports (readValue c u) n = reports c.idisar0 n := by
  rw [reports, reports, fieldOf_readValue, if_neg h, fieldOf_idisar0]

/-- Two defined RNDR nibbles are equal when both or neither are the value that reports. -/
theorem rndr_defined_eq_iff : ∀ a ∈ Field.rndr.defined, ∀ b ∈ Field.rndr.defined,
    ((a = 1 ↔ b = 1) ↔ a = b) := by
  decide

/-- Where the RNDR nibble is defined, it is fixed by what the value reports of a random number register. -/
theorem reports_rndr_eq_iff {v w : Word} (hv : fieldOf v .rndr ∈ Field.rndr.defined)
    (hw : fieldOf w .rndr ∈ Field.rndr.defined) :
    ∀ n ∈ [Named.rndr, .rndrrs], (reports v n = reports w n ↔ fieldOf v .rndr = fieldOf w .rndr) := by
  intro n hn
  have hrow := reports_row_eq .rndr (ns := [.rndr, .rndrrs]) (a := 1) (by decide)
  rw [Bool.eq_iff_iff, hrow v n hn, hrow w n hn]
  exact rndr_defined_eq_iff _ hv _ hw

theorem rndrAsRead_eq_pRndr_iff (c : Config) (u : Inputs) :
    rndrAsRead c u = c.pRndr ↔ c.featRNGTRAP = false ∨ c.rndrView c.pRndr u.scrEl3.trndr = c.pRndr := by
  cases htrap : c.featRNGTRAP with
  | false => simp [rndrAsRead_of_no_trap htrap]
  | true => simp [rndrAsRead_of_trap htrap]

/-- In an accepted configuration a read value and the register agree on a random number register exactly when the
read returns the parameter. -/
theorem reports_readValue_rndr_iff {c : Config} (haccepted : c.firstFailed = none) (u : Inputs) :
    ∀ n ∈ [Named.rndr, .rndrrs], (reports (readValue c u) n = reports c.idisar0 n ↔
      c.featRNGTRAP = false ∨ c.rndrView c.pRndr u.scrEl3.trndr = c.pRndr) := by
  intro n hn
  have hregister : fieldOf c.idisar0 .rndr = c.pRndr := fieldOf_idisar0 c .rndr
  have hread : fieldOf (readValue c u) .rndr = rndrAsRead c u := readValue_high c u
  have hdefined : fieldOf c.idisar0 .rndr ∈ Field.rndr.defined := hregister ▸ accepted_defined haccepted .rndr
  rw [reports_rndr_eq_iff (accepted_fieldOf_readValue haccepted u .rndr) hdefined n hn, hread, hregister,
    rndrAsRead_eq_pRndr_iff]

/-- Two names whose rows hold at the same time are reported together by the register. -/
theorem reports_idisar0_eq {c : Config} {m n : Named}
    (h : c.param m.field ∈ m.reportedAt ↔ c.param n.field ∈ n.reportedAt) :
    reports c.idisar0 m = reports c.idisar0 n := by
  rw [Bool.eq_iff_iff, reports_iff, reports_iff, fieldOf_idisar0, fieldOf_idisar0, h]

/-- The value that reports SHA512H also reports SHA256H. -/
theorem reports_sha256h_of_sha512h {v : Word} (h : reports v .sha512h = true) : reports v .sha256h = true := by
  rw [reports_iff] at h ⊢
  exact List.mem_cons_of_mem _ h

/-- Settles O41: a read value differs from the register in the RNDR nibble at most; the equivalences are R40 and
the legal triples of R42. -/
theorem readValueReportsTheRegister : Obligations.ReadValueReportsTheRegister := by
  refine ⟨fun t i s s' haccepted hexec hi => ?_, fun c hwf => ?_⟩
  · rw [readX_of_exec_next hexec hi]
    refine ⟨fun n hrndr hrndrrs => reports_readValue_of_field_ne ?_ _ _,
      reports_readValue_rndr_iff haccepted s.inputs⟩
    rw [ne_eq, field_eq_rndr_iff, not_or]
    exact ⟨hrndr, hrndrrs⟩
  · obtain ⟨-, hcross, -⟩ := (wf_iff c).1 hwf
    obtain ⟨hsm, hsha⟩ := (passes_wfCross_iff c).1 hcross
    obtain ⟨hsha1, hsha512⟩ := sha_features_of_mem_shaTriples _ hsha
    have hparam : c.param .sm4 = c.param .sm3 := hsm
    have hsha1c : reports c.idisar0 .sha1c = reports c.idisar0 .sha256h := reports_idisar0_eq hsha1
    exact ⟨reports_idisar0_eq (by simp only [Named.field, Named.reportedAt, hparam]), hsha1c,
      reports_idisar0_eq hsha512, fun h => hsha1c.trans (reports_sha256h_of_sha512h h)⟩

end IdentifiedProofs
end Sys2Proof

namespace Sys2Proof
namespace ExceptionProofs

open Machine Claims MemoryProofs ReadProofs IdentifiedProofs

/-! ## Which access is Undefined (R141) -/

/-- The columns of R111 under which the pseudocode answers `UnimplementedIDRegister()` (row 1) or `UNDEFINED`
(rows 2, 5, 8, 11 and 12). -/
theorem accessByTests_eq_unimplemented_or_undefined (el : EL) (aa64 idst e2t t3 prio e2i sdd : Bool) :
    accessByTests el aa64 idst e2t t3 prio e2i sdd = .unimplementedIDRegister
        ∨ accessByTests el aa64 idst e2t t3 prio e2i sdd = .undefined ↔
      aa64 = false
        ∨ aa64 = true ∧
          ((el = .el0 ∧ idst = false)
            ∨ (el = .el1 ∧ t3 = true ∧ prio = true)
            ∨ (el = .el1 ∧ t3 = true ∧ prio = false ∧ ¬ e2i = true ∧ sdd = true)
            ∨ (el = .el2 ∧ t3 = true ∧ prio = true)
            ∨ (el = .el2 ∧ t3 = true ∧ prio = false ∧ sdd = true)) := by
  cases aa64 with
  | false => simp [accessByTests]
  | true =>
    cases el with
    | el0 => cases idst <;> cases e2t <;> simp [accessByTests]
    | el1 => cases t3 <;> cases prio <;> cases e2i <;> cases sdd <;> simp [accessByTests]
    | el2 => cases t3 <;> cases prio <;> cases sdd <;> simp [accessByTests]
    | el3 => simp [accessByTests]

/-- The instruction is Undefined by either of two answers of the pseudocode, and names the pc. -/
theorem exec_eq_undefined_iff {t : RegNum} {s : State} {pc : Word} :
    exec (.mrsIdAa64isar0El1 t) s = .fault (.undefined pc) ↔
      pc = s.pc ∧ (accessOutcome s.config s.inputs = .unimplementedIDRegister
        ∨ accessOutcome s.config s.inputs = .undefined) := by
  simp [exec_fault, and_comm, or_comm]

/-- Settles O20: the rows with either of the two answers are known. -/
theorem undefinedExactlyInTheSixCases : Obligations.UndefinedExactlyInTheSixCases := by
  intro t s pc
  rw [exec_eq_undefined_iff, accessOutcome_eq, accessByTests_eq_unimplemented_or_undefined, el3IdTrap_eq_true,
    el2IdTrap_eq_true]

/-! ## Which access is trapped (R142, R144) -/

/-- The columns of R111 under which the pseudocode traps, and where to: those of rows 3, 4, 6 and 7 (as one
case), 9 and 13. -/
theorem accessByTests_eq_trap (el : EL) (aa64 idst e2t t3 prio e2i sdd : Bool) (target : EL) (number : Nat) :
    accessByTests el aa64 idst e2t t3 prio e2i sdd = .systemAccessTrap target number ↔
      number = trapNumber ∧ aa64 = true ∧
        ((el = .el0 ∧ idst = true ∧ e2t = true ∧ target = .el2)
          ∨ (el = .el0 ∧ idst = true ∧ ¬ e2t = true ∧ target = .el1)
          ∨ (el = .el1 ∧ ¬ (t3 = true ∧ prio = true) ∧ e2i = true ∧ target = .el2)
          ∨ (el = .el1 ∧ t3 = true ∧ prio = false ∧ ¬ e2i = true ∧ sdd = false ∧ target = .el3)
          ∨ (el = .el2 ∧ t3 = true ∧ prio = false ∧ sdd = false ∧ target = .el3)) := by
  cases aa64 with
  | false => simp [accessByTests]
  | true =>
    cases el with
    | el0 => cases idst <;> cases e2t <;> simp [accessByTests, eq_comm, and_comm]
    | el1 =>
      cases t3 <;> cases prio <;> cases e2i <;> cases sdd <;> simp [accessByTests, eq_comm, and_comm]
    | el2 => cases t3 <;> cases prio <;> cases sdd <;> simp [accessByTests, eq_comm, and_comm]
    | el3 => simp [accessByTests]

/-- The instruction traps exactly by the pseudocode's trap, with the pc and its own register number. -/
theorem exec_eq_trap_iff {t t' : RegNum} {s : State} {target : EL} {number : Nat} {pc : Word} :
    exec (.mrsIdAa64isar0El1 t) s = .fault (.systemAccessTrap target number pc t') ↔
      pc = s.pc ∧ t' = t ∧ accessOutcome s.config s.inputs = .systemAccessTrap target number := by
  rw [exec_fault]
  constructor
  · rintro (⟨-, hf⟩ | ⟨target', number', houtcome, hf⟩)
    · cases hf
    · cases hf
      exact ⟨rfl, rfl, houtcome⟩
  · rintro ⟨rfl, rfl, houtcome⟩
    exact .inr ⟨target, number, houtcome, rfl⟩

/-- Settles O21: the trap is the pseudocode's, whose rows are known. -/
theorem trappedExactlyInTheSixRows : Obligations.TrappedExactlyInTheSixRows := by
  intro t t' s target number pc
  rw [exec_eq_trap_iff, accessOutcome_eq, accessByTests_eq_trap, el3IdTrap_eq_true, el2IdTrap_eq_true,
    el2TgeTrap_eq_true, trapNumber]

/-! ## A stop ends the run (R147) -/

/-- The outcome of the step that a stop is. -/
def outcomeOfStop : Stop → Host.Outcome State Fault Refusal
  | .fault f => .fault f
  | .refused r => .refused r

/-- A run whose first step stops goes no further, whatever its length. -/
theorem runFrom_succ_of_stop {s : State} {stop : Stop} (h : step s = outcomeOfStop stop) (k : Nat) :
    runFrom (k + 1) s = { last := s, stop := some stop } := by
  cases stop <;> simp only [runFrom, h, outcomeOfStop]

/-- Settles O25: a step's fault is its instruction's, which names the pc. -/
theorem terminalOutcomeEndsTheRunUnchanged : Obligations.TerminalOutcomeEndsTheRunUnchanged := by
  intro s f hstep
  obtain ⟨-, -, i, -, -, hexec⟩ := step_fault hstep
  exact ⟨pc_of_exec_fault hexec, runFrom_succ_of_stop (stop := .fault f) hstep⟩

/-! ## EL0 and the configuration (R102, R150) -/

/-- At EL0 the access looks at two features of the configuration and at nothing else of it. -/
theorem accessOutcome_congr_of_EL0 {c d : Config} {u : Inputs} (hel : u.el = .el0)
    (haa64 : c.featAA64 = d.featAA64) (hidst : c.featIDST = d.featIDST) :
    accessOutcome c u = accessOutcome d u := by
  rw [accessOutcome_eq, accessOutcome_eq, hel, haa64, hidst]
  rfl

/-- A read at EL0 faults, and the fault is the same under a configuration with the same two features. -/
theorem exec_faults_alike_of_EL0 (i : Instr) {s : State} {c : Config} (hel : s.inputs.el = .el0)
    (haa64 : c.featAA64 = s.config.featAA64) (hidst : c.featIDST = s.config.featIDST) :
    ∃ f, exec i s = .fault f ∧ exec i { s with config := c } = .fault f := by
  cases i with
  | mrsIdAa64isar0El1 t =>
    obtain ⟨f, hfault⟩ := exec_faults_of_not_completes t (s := s) (by simp [ReadCompletes, hel])
    refine ⟨f, hfault, ?_⟩
    rw [exec_fault] at hfault ⊢
    rwa [accessOutcome_congr_of_EL0 hel haa64 hidst]

/-- A step at EL0 stops, and stops the same way under another accepted configuration with the same two features:
the fetch and the decoder do not look at the configuration, and the read faults alike. -/
theorem step_stops_alike_of_EL0 {s : State} {c : Config} (hel : s.inputs.el = .el0)
    (haccepted : s.config.firstFailed = none) (hc : c.firstFailed = none)
    (haa64 : c.featAA64 = s.config.featAA64) (hidst : c.featIDST = s.config.featIDST) :
    ∃ stop, step s = outcomeOfStop stop ∧ step { s with config := c } = outcomeOfStop stop := by
  cases hfetch : s.fetch with
  | none =>
    exact ⟨.refused (.noInstructionAt s.pc), step_of_fetch_none haccepted hfetch,
      step_of_fetch_none (s := { s with config := c }) hc hfetch⟩
  | some item =>
    cases hdecode : decodeItem item with
    | error r =>
      refine ⟨.refused (s.refuse r), step_of_decodeItem_error haccepted hfetch hdecode, ?_⟩
      rw [step_of_decodeItem_error (s := { s with config := c }) hc hfetch hdecode]
      cases r <;> rfl
    | ok i =>
      obtain ⟨f, hs, hsc⟩ := exec_faults_alike_of_EL0 i hel haa64 hidst
      refine ⟨.fault f, ?_, ?_⟩
      · rw [step_of_decodeItem hfetch hdecode haccepted, hs]
        rfl
      · rw [step_of_decodeItem (s := { s with config := c }) hfetch hdecode hc, hsc]
        rfl

/-- Settles O24: both runs end at their first step, by the same stop. -/
theorem el0LearnsNothingOfTheRegister : Obligations.EL0LearnsNothingOfTheRegister := by
  intro k s c hel haccepted hc haa64 hidst
  cases k with
  | zero => exact ⟨rfl, rfl⟩
  | succ k =>
    obtain ⟨stop, hs, hsc⟩ := step_stops_alike_of_EL0 hel haccepted hc haa64 hidst
    rw [runFrom_succ_of_stop hs, runFrom_succ_of_stop hsc]
    exact ⟨rfl, rfl⟩

end ExceptionProofs
end Sys2Proof

namespace Sys2Proof
namespace ResetProofs

open Machine Claims ReadProofs

/-! ## When the read completes (R171) -/

/-- Settles O13: a next state is answered only when the read completes, and then it is the one of R106. -/
theorem readCompletesExactlyWhenNotTrapped : Obligations.ReadCompletesExactlyWhenNotTrapped := by
  intro t s
  constructor
  · rintro ⟨s', hnext⟩
    exact (exec_eq_next_iff.1 hnext).1
  · intro hcompletes
    exact ⟨completedRead t s, exec_eq_next_iff.2 ⟨hcompletes, rfl⟩⟩

end ResetProofs
end Sys2Proof
